-- ==== Sys2Proof/Word.lean ====
section
/-! DEFINITION. The word of the block: every host register is 32 bits (R18), bit 0 the least significant (R10). -/

namespace Sys2Proof

/-- A 32-bit register value (R18). Bit 0 is the least significant bit (R10). -/
abbrev Word := BitVec 32

/-- The one 32-bit value whose magnitude has no 32-bit signed value: −2^31 (R92, R97). -/
def Word.mostNegative : Word := 0x80000000#32

end Sys2Proof
end

