-- ==== Sys2Proof/Syntax.lean ====
section
/-! DEFINITION. The command set as data: the nine microstep modes (R35) and the eleven commands (R93), each with the
operands its command takes from the CMD word and from ARG0 and ARG1 (R90, R97). -/

namespace Sys2Proof

/-- The nine microstep modes of R35, by mnemonic. "always one of the 9 defined variants": the type has no tenth value. -/
inductive MicrostepMode where
  | full
  | m2
  | m4
  | m8
  | m16
  | m32
  | m64
  | m128
  | m256
  deriving DecidableEq, Repr

/-- One command, as R91 latches it: the fields of its CMD word and the ARG registers it reads (R90, R97).
A command takes ARG0 and ARG1 by value, since no write to them has an effect while it executes (R77). -/
inductive Instr where
  /-- SET_SPEED (R122): `rpm` is ARG0, read through `sint32`. -/
  | setSpeed (rpm : Word)
  /-- MSPS (R121): the mode of CMD[11:8]. -/
  | msps (mode : MicrostepMode)
  /-- STEP (R141): `count` is ARG0, read through `sint32`. -/
  | step (count : Word)
  /-- STEP_FIXED (R160): `count` is ARG0 through `sint32`, `interval` is ARG1 through `uint32`. -/
  | stepFixed (count interval : Word)
  /-- SET_MODE (R178): the mode of CMD[11:8]. -/
  | setMode (mode : MicrostepMode)
  /-- ENABLE (R190): `b` is CMD[12]. -/
  | enable (b : Bool)
  /-- IS_ENABLED (R193). -/
  | isEnabled
  /-- IS_FAULT (R194). -/
  | isFault
  /-- CLEAR_FAULT (R195). -/
  | clearFault
  /-- STANDBY (R196): `b` is CMD[12]. -/
  | standby (b : Bool)
  /-- RESET (R197), the command; it is not the block's own reset (R260). -/
  | reset
  deriving DecidableEq, Repr

end Sys2Proof
end

