-- ==== Sys2Proof/WellFormed.lean ====
section
/-! DEFINITION. Which commands an encoding can spell: R92's check on a signed count is the only one that the types of
`Instr` do not already make. -/

namespace Sys2Proof

/-- A count whose magnitude R97 admits: any 32-bit value but −2^31. -/
def Word.isCount (w : Word) : Bool := w != Word.mostNegative

/-- R92: STEP and STEP_FIXED spell a command only when ARG0 is not 0x8000_0000. Every other value of `Instr` is spelled. -/
def Instr.wellFormed : Instr → Bool
  | .setSpeed _ => true
  | .msps _ => true
  | .step count => count.isCount
  | .stepFixed count _ => count.isCount
  | .setMode _ => true
  | .enable _ => true
  | .isEnabled => true
  | .isFault => true
  | .clearFault => true
  | .standby _ => true
  | .reset => true

end Sys2Proof
end

