-- ==== Sys2Proof/Decode.lean ====
section
/-! DEFINITION. The decoder of R92, total on every word and rejecting by name, then the encoder of R93, R95, R96 and
R103, and the match and mask table of R94. -/

namespace Sys2Proof

/-- Why a CMD word, with the ARG0 latched beside it, spells no command (R92, R98). All six give the same outcome
(R92), `Err(ILLEGAL)`; the name only says which check failed first. -/
inductive Illegal where
  /-- R98 1: OPC is not in the table of R93. -/
  | opcode
  /-- R98 2: RSV is not 0. -/
  | reservedBits
  /-- R98 3: MODE is not 0 where the opcode does not use it. -/
  | modeUnused
  /-- R98 3: B is not 0 where the opcode does not use it. -/
  | boolUnused
  /-- R98 4: MODE is 9 to 15 for MSPS or SET_MODE. -/
  | modeRange
  /-- R98 5: ARG0 is 0x8000_0000 for STEP or STEP_FIXED. -/
  | countRange
  deriving DecidableEq, Repr

/-- The opcodes of R93. -/
inductive Opcode where
  | setSpeed
  | msps
  | step
  | stepFixed
  | setMode
  | enable
  | isEnabled
  | isFault
  | clearFault
  | standby
  | reset
  deriving DecidableEq, Repr

/-- The OPC column of R93. -/
def Opcode.bits : Opcode → BitVec 8
  | .setSpeed => 0x01#8
  | .msps => 0x02#8
  | .step => 0x10#8
  | .stepFixed => 0x11#8
  | .setMode => 0x20#8
  | .enable => 0x30#8
  | .isEnabled => 0x31#8
  | .isFault => 0x32#8
  | .clearFault => 0x33#8
  | .standby => 0x34#8
  | .reset => 0x35#8

/-- Every opcode, in the order of R93's table. -/
def Opcode.all : List Opcode :=
  [.setSpeed, .msps, .step, .stepFixed, .setMode, .enable, .isEnabled, .isFault, .clearFault, .standby, .reset]

/-- R93 read from its OPC column; any value outside the table, 0x00 included, names no command. -/
def Opcode.ofBits? (b : BitVec 8) : Option Opcode := Opcode.all.find? fun op => op.bits == b

/-- R90: the opcodes whose MODE field is an operand. -/
def Opcode.usesMode : Opcode → Bool
  | .msps | .setMode => true
  | .setSpeed | .step | .stepFixed | .enable | .isEnabled | .isFault | .clearFault | .standby | .reset => false

/-- R90: the opcodes whose B field is an operand. -/
def Opcode.usesBool : Opcode → Bool
  | .enable | .standby => true
  | .setSpeed | .msps | .step | .stepFixed | .setMode | .isEnabled | .isFault | .clearFault | .reset => false

/-- R92: the opcodes whose ARG0 is a signed count. -/
def Opcode.usesCount : Opcode → Bool
  | .step | .stepFixed => true
  | .setSpeed | .msps | .setMode | .enable | .isEnabled | .isFault | .clearFault | .standby | .reset => false

/-- The code k of a mode (R35, R95). -/
def MicrostepMode.code : MicrostepMode → BitVec 4
  | .full => 0#4
  | .m2 => 1#4
  | .m4 => 2#4
  | .m8 => 3#4
  | .m16 => 4#4
  | .m32 => 5#4
  | .m64 => 6#4
  | .m128 => 7#4
  | .m256 => 8#4

/-- Every mode, in the order of R35's table. -/
def MicrostepMode.all : List MicrostepMode := [.full, .m2, .m4, .m8, .m16, .m32, .m64, .m128, .m256]

/-- The mode a code names; 9 to 15 name none (R95). -/
def MicrostepMode.ofCode? (k : BitVec 4) : Option MicrostepMode := MicrostepMode.all.find? fun m => m.code == k

/-- CMD[7:0] (R90). -/
def cmdOpc (w : Word) : BitVec 8 := w.extractLsb' 0 8

/-- CMD[11:8] (R90). -/
def cmdMode (w : Word) : BitVec 4 := w.extractLsb' 8 4

/-- CMD[12] (R90, R96). -/
def cmdBool (w : Word) : Bool := w.getLsbD 12

/-- CMD[31:13], which must be 0 (R90). -/
def cmdReserved (w : Word) : BitVec 19 := w.extractLsb' 13 19

/-- The command an opcode spells with the operands given it (R93). -/
def Opcode.build (op : Opcode) (mode : MicrostepMode) (b : Bool) (a0 a1 : Word) : Instr :=
  match op with
  | .setSpeed => .setSpeed a0
  | .msps => .msps mode
  | .step => .step a0
  | .stepFixed => .stepFixed a0 a1
  | .setMode => .setMode mode
  | .enable => .enable b
  | .isEnabled => .isEnabled
  | .isFault => .isFault
  | .clearFault => .clearFault
  | .standby => .standby b
  | .reset => .reset

/-- R92's checks in the order it lists them, on a CMD word and the ARG0 and ARG1 latched with it. A MODE that is not
an operand has been checked to be 0, which names FULL, and is not used. -/
def decode (w a0 a1 : Word) : Except Illegal Instr :=
  match Opcode.ofBits? (cmdOpc w) with
  | none => .error .opcode
  | some op =>
    if cmdReserved w ≠ 0#19 then .error .reservedBits
    else if !op.usesMode ∧ cmdMode w ≠ 0#4 then .error .modeUnused
    else if !op.usesBool ∧ cmdBool w then .error .boolUnused
    else
      match MicrostepMode.ofCode? (cmdMode w) with
      | none => .error .modeRange
      | some mode =>
        if op.usesCount ∧ !a0.isCount then .error .countRange
        else .ok (op.build mode (cmdBool w) a0 a1)

/-- The opcode of a command. -/
def Instr.opcode : Instr → Opcode
  | .setSpeed _ => .setSpeed
  | .msps _ => .msps
  | .step _ => .step
  | .stepFixed _ _ => .stepFixed
  | .setMode _ => .setMode
  | .enable _ => .enable
  | .isEnabled => .isEnabled
  | .isFault => .isFault
  | .clearFault => .clearFault
  | .standby _ => .standby
  | .reset => .reset

/-- The MODE field of a command's word: its mode code, or 0 where the opcode has no such operand (R90, R95). -/
def Instr.modeField : Instr → BitVec 4
  | .msps mode => mode.code
  | .setMode mode => mode.code
  | .setSpeed _ | .step _ | .stepFixed _ _ | .enable _ | .isEnabled | .isFault | .clearFault | .standby _ | .reset => 0#4

/-- The B field of a command's word: its boolean, or 0 where the opcode has no such operand (R90, R96). -/
def Instr.boolField : Instr → Bool
  | .enable b => b
  | .standby b => b
  | .setSpeed _ | .msps _ | .step _ | .stepFixed _ _ | .setMode _ | .isEnabled | .isFault | .clearFault | .reset => false

/-- The CMD word with these fields and RSV 0 (R90, R103). -/
def wordOf (op : BitVec 8) (mode : BitVec 4) (b : Bool) : Word :=
  op.setWidth 32 ||| (mode.setWidth 32 <<< 8) ||| ((BitVec.ofBool b).setWidth 32 <<< 12)

/-- The CMD word of a command (R90, R103). -/
def Instr.cmdWord (i : Instr) : Word := wordOf i.opcode.bits i.modeField i.boolField

/-- What a command wants in ARG0, where it takes it (R97). -/
def Instr.arg0? : Instr → Option Word
  | .setSpeed rpm => some rpm
  | .step count => some count
  | .stepFixed count _ => some count
  | .msps _ | .setMode _ | .enable _ | .isEnabled | .isFault | .clearFault | .standby _ | .reset => none

/-- What a command wants in ARG1, where it takes it (R97). -/
def Instr.arg1? : Instr → Option Word
  | .stepFixed _ interval => some interval
  | .setSpeed _ | .msps _ | .step _ | .setMode _ | .enable _ | .isEnabled | .isFault | .clearFault | .standby _
  | .reset => none

/-- The words of a command: CMD, ARG0 and ARG1, an operand register the command does not read being 0. -/
def encode (i : Instr) : Word × Word × Word := (i.cmdWord, i.arg0?.getD 0#32, i.arg1?.getD 0#32)

/-- A row of R94. -/
structure MatchRow where
  opcode : Opcode
  pattern : Word
  mask : Word
  deriving DecidableEq, Repr

/-- The match and mask table of R94, row by row. -/
def matchTable : List MatchRow :=
  [⟨.setSpeed, 0x00000001#32, 0xFFFFFFFF#32⟩,
   ⟨.msps, 0x00000002#32, 0xFFFFF0FF#32⟩,
   ⟨.step, 0x00000010#32, 0xFFFFFFFF#32⟩,
   ⟨.stepFixed, 0x00000011#32, 0xFFFFFFFF#32⟩,
   ⟨.setMode, 0x00000020#32, 0xFFFFF0FF#32⟩,
   ⟨.enable, 0x00000030#32, 0xFFFFEFFF#32⟩,
   ⟨.isEnabled, 0x00000031#32, 0xFFFFFFFF#32⟩,
   ⟨.isFault, 0x00000032#32, 0xFFFFFFFF#32⟩,
   ⟨.clearFault, 0x00000033#32, 0xFFFFFFFF#32⟩,
   ⟨.standby, 0x00000034#32, 0xFFFFEFFF#32⟩,
   ⟨.reset, 0x00000035#32, 0xFFFFFFFF#32⟩]

/-- A word has a row's pattern (R94). -/
def MatchRow.spells (r : MatchRow) (w : Word) : Bool := w &&& r.mask == r.pattern

/-- The three words of an instruction numbered as spec/opcode_table.json numbers bits: CMD is bits 31..0, ARG0 bits
63..32 and ARG1 bits 95..64, each bit above `nbits` 0. -/
def tableWords (nbits w : Nat) : Word × Word × Word :=
  (BitVec.ofNat 32 (w % 2 ^ nbits), BitVec.ofNat 32 (w % 2 ^ nbits / 2 ^ 32), BitVec.ofNat 32 (w % 2 ^ nbits / 2 ^ 64))

/-- The command the decoder reads from an instruction whose bits are `w`, operand words of zeros above `nbits`. -/
def decodeTableWord (nbits w : Nat) : Option Instr :=
  (decode (tableWords nbits w).1 (tableWords nbits w).2.1 (tableWords nbits w).2.2).toOption

end Sys2Proof
end

