-- ==== Sys2Proof/Config.lean ====
section
/-! DEFINITION. The parameters of R8: the record of them that a block instance carries, the constants the source fixes,
and the values the spec leaves OPEN, as constants with no body (R8, R16, 92_eei_decisions.md). -/

namespace Sys2Proof

/-- The six pins (R9, R20). -/
inductive Pin where
  | step
  | dir
  | ms1
  | ms2
  | en
  | stby
  deriving DecidableEq, Repr

/-- The pins that are outputs only, those `PinWrite` takes (R14, R236). -/
inductive OutPin where
  | step
  | dir
  | ms1
  | ms2
  | stby
  deriving DecidableEq, Repr

/-- The pin an output port drives. -/
def OutPin.pin : OutPin → Pin
  | .step => .step
  | .dir => .dir
  | .ms1 => .ms1
  | .ms2 => .ms2
  | .stby => .stby

/-- PRESENT[p] (R8, D30): six independent booleans. -/
structure Present where
  step : Bool
  dir : Bool
  ms1 : Bool
  ms2 : Bool
  en : Bool
  stby : Bool
  deriving DecidableEq, Repr

/-- PRESENT[p]. -/
def Present.has (p : Present) : Pin → Bool
  | .step => p.step
  | .dir => p.dir
  | .ms1 => p.ms1
  | .ms2 => p.ms2
  | .en => p.en
  | .stby => p.stby

/-- LATCH_CODE (R8, R175) as data: one 4-bit code per mode. Nothing says that two modes have distinct codes. -/
structure LatchTable where
  full : BitVec 4
  m2 : BitVec 4
  m4 : BitVec 4
  m8 : BitVec 4
  m16 : BitVec 4
  m32 : BitVec 4
  m64 : BitVec 4
  m128 : BitVec 4
  m256 : BitVec 4
  deriving DecidableEq, Repr

/-- LATCH_CODE(m). -/
def LatchTable.code (t : LatchTable) : MicrostepMode → BitVec 4
  | .full => t.full
  | .m2 => t.m2
  | .m4 => t.m4
  | .m8 => t.m8
  | .m16 => t.m16
  | .m32 => t.m32
  | .m64 => t.m64
  | .m128 => t.m128
  | .m256 => t.m256

/-- FIXED_UNIT_US (R8, D17): 1 µs or 1000 µs. -/
inductive FixedUnit where
  | microsecond
  | millisecond
  deriving DecidableEq, Repr

/-- FIXED_UNIT_US in µs. -/
def FixedUnit.us : FixedUnit → Nat
  | .microsecond => 1
  | .millisecond => 1000

/-- The parameters of one block instance (R8, R30): fixed at construction, and no command changes them. -/
structure Params where
  /-- SPR, the wrap modulus of `position`. -/
  spr : Nat
  present : Present
  latch : LatchTable
  /-- PULSE_WIDTH_US. -/
  pulseWidthUs : Nat
  /-- CLEAR_FAULT_LOW_US. -/
  clearFaultLowUs : Nat
  fixedUnit : FixedUnit
  /-- BASE, the platform address of the register aperture. -/
  base : Nat
  deriving DecidableEq, Repr

/-- The ranges R8 gives the parameters. -/
def Params.valid (p : Params) : Bool :=
  decide (1 ≤ p.spr) && decide (p.spr ≤ 2 ^ 31 - 1) && decide (1 ≤ p.pulseWidthUs) && decide (1 ≤ p.clearFaultLowUs)
    && decide (p.base % 256 = 0)

/-- SETTLE_US (R8): the latch settle wait and the reset gap, a lower bound of 1 ms. -/
def Config.settleUs : Nat := 1000

/-- SENTINEL_INTERVAL (R8): the interval for rpm ≤ 0. -/
def Config.sentinelInterval : Nat := 1000000

/-- TICKS_PER_MINUTE (R8): the numerator of R122's formula. -/
def Config.ticksPerMinute : Nat := 60000000

/-- CLOCK_WIDTH (R8, D24): the bits of the physical timestamp. The model's clock is a natural number, which is the
physical one while it stays below 2^CLOCK_WIDTH (`State.clockFits` in Safety.lean; log entry 14). -/
def Config.clockWidth : Nat := 64

/-! The OPEN values. Each is a constant with no body, brought into R8's range by a function that reaches every value of
the range (DESIGN CHOICE of their form, log entry 3). The draws after them are free values too (log entry 4). -/

/-- PRESENT of the block that resets. -/
opaque Config.presentAt : Pin → Bool
/-- LATCH_CODE of the block that resets (R175). -/
opaque Config.latchCode : MicrostepMode → BitVec 4
/-- SPR before it is brought into [1, 2^31 − 1]. -/
opaque Config.sprRaw : Nat
/-- PULSE_WIDTH_US less 1. -/
opaque Config.pulseWidthRaw : Nat
/-- CLEAR_FAULT_LOW_US less 1. -/
opaque Config.clearFaultLowRaw : Nat
/-- Whether FIXED_UNIT_US is 1000. -/
opaque Config.fixedUnitIsMilli : Bool
/-- BASE divided by 256. -/
opaque Config.basePage : Nat
/-- INIT_PULSE_INTERVAL before it is brought into [1, 2^32 − 1] (R32). -/
opaque Config.initPulseIntervalRaw : Nat
/-- INIT_POSITION before it is brought into [0, SPR) (R33). -/
opaque Config.initPositionRaw : Nat
/-- INIT_ENABLED (R36). -/
opaque Config.initEnabled : Bool
/-- The clock value when reset ends. -/
opaque Config.clockAtReset : Nat
/-- How many clock samples after reset find the clock where reset left it (R15, R237). -/
opaque Config.lullAtReset : Nat
/-- INIT_LAST_PULSE_TIME before it is brought to at most the clock value when reset ends (R34). -/
opaque Config.initLastPulseTimeRaw : Nat
/-- INIT_PINS: the level of each output pin when reset ends (R37, R261). -/
opaque Config.initLevel : OutPin → Bool
/-- INIT_PINS: whether EN ends reset as an input with pull-up (R37, R261). -/
opaque Config.initEnIsInput : Bool

/-! Each draw is a value of one of the functions below, at the number of the environment that an instance is connected to
and at the count of its draws. Two instances have two environments, and nothing relates their draws (R81, R239). -/

/-- The µs, less 1, by which the clock of environment `env` moves at draw k, where it moves (R15, R16). Every clock value
the block can see, every poll period and every delay overshoot is made of these and of `Config.lull` (log entry 2). -/
opaque Config.clockGap (env k : Nat) : Nat
/-- How many samples after draw k of environment `env` find its clock where draw k left it: any natural number (R237; log
entry 20). -/
opaque Config.lull (env k : Nat) : Nat
/-- The level on EN at draw k of environment `env` while EN is an input with pull-up (R194). -/
opaque Config.enLineLevel (env k : Nat) : Bool
/-- What draw k of environment `env` reads on EN while EN is an output (R194, D20). -/
opaque Config.enReadback (env k : Nat) : Bool
/-- What draw k of environment `env` returns to a host read whose value the spec leaves to the environment (R43, R74,
R76). -/
opaque Config.busyRead (env k : Nat) : Word

/-- PRESENT of the block that resets, as a record. -/
def Config.present : Present :=
  { step := Config.presentAt .step, dir := Config.presentAt .dir, ms1 := Config.presentAt .ms1,
    ms2 := Config.presentAt .ms2, en := Config.presentAt .en, stby := Config.presentAt .stby }

/-- LATCH_CODE of the block that resets, as a record. -/
def Config.latch : LatchTable :=
  { full := Config.latchCode .full, m2 := Config.latchCode .m2, m4 := Config.latchCode .m4, m8 := Config.latchCode .m8,
    m16 := Config.latchCode .m16, m32 := Config.latchCode .m32, m64 := Config.latchCode .m64,
    m128 := Config.latchCode .m128, m256 := Config.latchCode .m256 }

/-- The parameters of the block that resets: each OPEN value anywhere in R8's range. -/
def Config.params : Params :=
  { spr := 1 + Config.sprRaw % (2 ^ 31 - 1)
    present := Config.present
    latch := Config.latch
    pulseWidthUs := 1 + Config.pulseWidthRaw
    clearFaultLowUs := 1 + Config.clearFaultLowRaw
    fixedUnit := if Config.fixedUnitIsMilli then .millisecond else .microsecond
    base := 256 * Config.basePage }

/-- INIT_PULSE_INTERVAL, in [1, 2^32 − 1]. -/
def Config.initPulseInterval : Nat := 1 + Config.initPulseIntervalRaw % (2 ^ 32 - 1)

/-- INIT_POSITION, in [0, SPR). -/
def Config.initPosition : Nat := Config.initPositionRaw % Config.params.spr

/-- INIT_LAST_PULSE_TIME, at most the clock value when reset ends. -/
def Config.initLastPulseTime : Nat := Config.initLastPulseTimeRaw % (Config.clockAtReset + 1)

end Sys2Proof
end

