-- ==== Sys2Proof/Machine/State.lean ====
section
/-! DEFINITION. The state of one block instance (R30), as plain data: the five device-state fields, the pins, the host
registers, the sequencer phase with its locals, the model's bookkeeping (R47), what the environment supplies, and the
host's pending accesses. Then the state after reset (R49, R260). -/

namespace Sys2Proof.Machine

/-- The model faults of R226. The spec gives a raised fault an effect, so no step ends in one: it is added to the fault
set of `State.faults` and the run goes on (R77, R227; DEDUCED, log entry 6). -/
inductive Fault where
  /-- Raised by a host write to CMD, ARG0 or ARG1 while BUSY = 1 (R77, R226): recorded in `State.faults` by
  `Sys2Proof.Machine.hostWrite`. Safe: a faulted run is never final (R227), so nothing is claimed of it. -/
  | concurrentAccess
  deriving DecidableEq, Repr

/-- Why the model gives something no meaning. No step answers a refusal: an access the interface does not admit sets
`State.refusalMark` and the run goes on (R73, R228). -/
inductive Refusal where
  /-- An instruction that has no meaning yet. No arm of `exec` raises it. Safe: nothing is claimed. -/
  | notModelled (mnemonic : String)
  /-- Raised by `State.construct` and `constructAll` alone, for parameters or initial values outside R8's ranges, SPR = 0
  among them (R260, D30). Safe: no machine is built. -/
  | construction
  deriving DecidableEq, Repr

/-- The configuration of EN (R37). "No command produces any other EN configuration." -/
inductive EnConfig where
  | outLow
  | inPullup
  deriving DecidableEq, Repr

/-- The pin state (R37): a level per output pin (`true` is 1) and the configuration of EN. A field of an absent pin
stands for nothing: no operation writes it, and `State.level?` and `State.enConfig?` answer that there is none (log entry
11). -/
structure Pins where
  step : Bool
  dir : Bool
  ms1 : Bool
  ms2 : Bool
  stby : Bool
  en : EnConfig
  deriving DecidableEq, Repr

/-- What an action does to a pin (R14). -/
inductive PinAction where
  /-- `PinWrite(p, v)`. -/
  | drive (level : Bool)
  /-- `PinCfgOutLow(EN)`. -/
  | cfgOutLow
  /-- `PinCfgInPullup(EN)`. -/
  | cfgInPullup
  deriving DecidableEq, Repr

/-- One event `(t, pin, what)` of the pin trace (R14, R47). -/
structure PinEvent where
  time : Nat
  pin : Pin
  what : PinAction
  deriving DecidableEq, Repr

/-- STATUS.ERR (R41, R220). Codes 3 to 15 are never produced, so they have no constructor. -/
inductive ErrCode where
  | none
  | illegal
  | capMissing
  deriving DecidableEq, Repr

/-- The local variables of the executing command (R44). -/
structure Locals where
  /-- The remaining pulse count of STEP and STEP_FIXED. -/
  n : Nat
  /-- The direction of STEP and STEP_FIXED. -/
  fwd : Bool
  /-- The latch code being driven. -/
  code : BitVec 4
  /-- STEP's release sample `t`. -/
  t : Nat
  /-- The clock value at which the current delay started, while one is under way. -/
  since : Option Nat
  deriving DecidableEq, Repr

/-- The sequencer phase (R44). BUSY is what is not `idle`. -/
inductive Phase where
  | idle
  /-- BUSY(w, start) of R91: the word and the ARG registers are latched and not yet decoded. -/
  | start (w a0 a1 : Word)
  /-- BUSY(c, at): the command, the point reached in its pseudocode (an index into `Sys2Proof.Machine.script`), and
  its local variables. -/
  | run (c : Instr) (point : Nat) (l : Locals)
  deriving DecidableEq, Repr

/-- A host access to the register interface (R13): a byte offset from BASE, a width in bytes and, for a write, the
value. -/
inductive Access where
  | read (offset bytes : Nat)
  | write (offset bytes : Nat) (v : Word)
  deriving DecidableEq, Repr

/-- One turn of the host (R102, R242). -/
inductive HostTurn where
  /-- One register access, whatever the block is doing. -/
  | access (a : Access)
  /-- The host lets the block perform one primitive, so that its next access falls inside a command. -/
  | yield
  /-- R102's last line: poll STATUS until BUSY reads 0. -/
  | poll
  deriving DecidableEq, Repr

/-- The state of the machine. -/
structure State where
  /-- The parameters of this instance (R8, R30). No step changes them. -/
  params : Params
  /-- `pulse_interval`, unsigned 32 bits, in µs (R32). -/
  pulseInterval : Word
  /-- `position`, 32 bits, its reachable values [0, SPR) (R33). -/
  position : Word
  /-- `last_pulse_time`, a natural number of µs (R34). -/
  lastPulseTime : Nat
  /-- `microstep_mode` (R35). -/
  microstepMode : MicrostepMode
  /-- `enabled` (R36). -/
  enabled : Bool
  /-- The pin state (R37). -/
  pins : Pins
  /-- ARG0 (R38). -/
  arg0 : Word
  /-- ARG1 (R39). -/
  arg1 : Word
  /-- RESULT (R40). -/
  result : Word
  /-- STATUS.ERR (R41). STATUS.BUSY is read from `phase` (R44). -/
  err : ErrCode
  /-- The sequencer phase (R44). -/
  phase : Phase
  /-- The pin trace, oldest event first (R47). DESIGN CHOICE (log entry 5): empty at reset. -/
  trace : List PinEvent
  /-- The fault set (R47), without repeats, in the order raised. -/
  faults : List Fault
  /-- The refusal mark (R47, R73). -/
  refusalMark : Bool
  /-- Which environment this instance is connected to, and so which draws it takes (R16, R239): the model's own field. No
  step changes it. DESIGN CHOICE (log entry 4): `State.reset` has environment 0. -/
  env : Nat
  /-- The environment's clock (R15, R242): the latest clock value anything has sampled. -/
  clock : Nat
  /-- Where a faulty clock stops (R229): no sample is later than this value. None is R237's assumption, that the clock
  increases without bound, and no step changes it. DEDUCED (log entry 20): none at `State.reset`. -/
  clockStop : Option Nat
  /-- How many samples from now find the clock where it is (R237, log entry 20): the model's own field. A free value at
  reset. -/
  lull : Nat
  /-- How many draws (R16) have been taken: the model's own field, the index of the next free value. DESIGN CHOICE (log
  entry 4): 0 at reset. -/
  draws : Nat
  /-- The turns the host has yet to take, the next one first (R242). DESIGN CHOICE (log entry 7): none at reset. -/
  host : List HostTurn
  /-- What the host's last admitted read returned: the model's own field. DESIGN CHOICE (log entry 7): 0 at reset. -/
  readData : Word
  /-- STATUS.BUSY = 0 has been read after the last CMD write (R244): the model's own field. DEDUCED (log entry 21): true at
  reset, where no command is outstanding. -/
  observed : Bool
  deriving DecidableEq, Repr

/-- The values R8 leaves OPEN at reset, INIT_PINS and the clock value when reset ends among them. -/
structure Init where
  pulseInterval : Nat
  position : Nat
  lastPulseTime : Nat
  enabled : Bool
  pins : Pins
  clock : Nat
  clockStop : Option Nat
  lull : Nat
  deriving DecidableEq, Repr

/-- The ranges R8 gives the values of reset, and a clock that has not gone past where it stops. -/
def Init.valid (p : Params) (i : Init) : Bool :=
  decide (1 ≤ i.pulseInterval) && decide (i.pulseInterval ≤ 2 ^ 32 - 1) && decide (i.position < p.spr)
    && decide (i.lastPulseTime ≤ i.clock) && i.clockStop.all fun stop => decide (i.clock ≤ stop)

/-- R49's table: the state at the end of reset, from the parameters, the OPEN values and the environment the instance is
connected to. -/
def State.atReset (p : Params) (i : Init) (env : Nat) : State :=
  { params := p
    pulseInterval := BitVec.ofNat 32 i.pulseInterval
    position := BitVec.ofNat 32 i.position
    lastPulseTime := i.lastPulseTime
    microstepMode := .m16
    enabled := i.enabled
    pins := i.pins
    arg0 := 0#32
    arg1 := 0#32
    result := 0#32
    err := .none
    phase := .idle
    trace := []
    faults := []
    refusalMark := false
    env := env
    clock := i.clock
    clockStop := i.clockStop
    lull := i.lull
    draws := 0
    host := []
    readData := 0#32
    observed := true }

/-- Construction and initialisation (R260): a block is built from parameters and OPEN values in range, and refused from
any other, SPR = 0 among them (D30). -/
def State.construct (p : Params) (i : Init) (env : Nat) : Host.Outcome State Fault Refusal :=
  if p.valid && i.valid p then .next (State.atReset p i env) else .refused .construction

/-- The OPEN values of reset, each a free value of Config, with R237's assumption on the clock. -/
def Init.ofConfig : Init :=
  { pulseInterval := Config.initPulseInterval
    position := Config.initPosition
    lastPulseTime := Config.initLastPulseTime
    enabled := Config.initEnabled
    pins :=
      { step := Config.initLevel .step, dir := Config.initLevel .dir, ms1 := Config.initLevel .ms1,
        ms2 := Config.initLevel .ms2, stby := Config.initLevel .stby,
        en := if Config.initEnIsInput then .inPullup else .outLow }
    clock := Config.clockAtReset
    clockStop := none
    lull := Config.lullAtReset }

/-- The machine right after reset (R49, R260). -/
def State.reset : State := State.atReset Config.params Init.ofConfig 0

end Sys2Proof.Machine
end

