-- ==== Sys2Proof/Machine/Operands.lean ====
section
/-! DEFINITION. Every operand form: how a 32-bit operand is read (R11, R97), the divisor of a mode (R120), and the
values a pin is driven to (R90, R177). -/

namespace Sys2Proof.Machine

/-- `sint32(w)` (R11). -/
abbrev sint32 (w : Word) : Int := w.toInt

/-- `uint32(w)` (R11). -/
abbrev uint32 (w : Word) : Nat := w.toNat

/-- `n <- |c|` of R141 and R160, for `c = sint32(ARG0)`. -/
def pulseCount (count : Word) : Nat := (sint32 count).natAbs

/-- `fwd <- (c > 0)` of R141 and R160. -/
def isForward (count : Word) : Bool := decide (0 < sint32 count)

/-- The 32-bit value of a boolean result (R40). -/
def boolWord (b : Bool) : Word := if b then 1#32 else 0#32

/-- `MSPS(k) = 2^k` (R120). -/
def divisor (m : MicrostepMode) : Nat := 2 ^ m.code.toNat

/-- R122's arithmetic, exact and never wrapping (R123): the interval for a speed, SPR and mode. -/
def intervalFor (spr : Nat) (m : MicrostepMode) (rpm : Word) : Nat :=
  if sint32 rpm ≤ 0 then Config.sentinelInterval
  else max 1 (Config.ticksPerMinute / (spr * divisor m * (sint32 rpm).toNat))

/-- STEP_FIXED's wait in µs: `w * FIXED_UNIT_US` (R160). -/
def fixedWaitUs (p : Params) (interval : Word) : Nat := uint32 interval * p.fixedUnit.us

end Sys2Proof.Machine
end

