-- ==== Sys2Proof/Machine/Flags.lean ====
section
/-! DEFINITION. The flags: STATUS with its BUSY and ERR fields (R41), the PRESENT view (R42), and what is derived from
the state without being stored (R45, R46). -/

namespace Sys2Proof.Machine

/-- The ERR code of R220. -/
def ErrCode.code : ErrCode → BitVec 4
  | .none => 0#4
  | .illegal => 1#4
  | .capMissing => 2#4

/-- STATUS.BUSY = 1 exactly when phase ≠ IDLE (R44). -/
def State.busy (s : State) : Bool := s.phase != .idle

/-- STATUS (R41): BUSY in bit 0, ERR in bits 7:4, every other bit 0. -/
def State.status (s : State) : Word := 0#24 ++ s.err.code ++ 0#3 ++ BitVec.ofBool s.busy

/-- The PRESENT view (R42): bit 0 STEP, bit 1 DIR, bit 2 MS1, bit 3 MS2, bit 4 EN, bit 5 STBY, every other bit 0. -/
def presentWord (p : Present) : Word :=
  0#26 ++ BitVec.ofBool p.stby ++ BitVec.ofBool p.en ++ BitVec.ofBool p.ms2 ++ BitVec.ofBool p.ms1 ++
    BitVec.ofBool p.dir ++ BitVec.ofBool p.step

/-- `lvl[p]` (R37). -/
def Pins.level (p : Pins) : OutPin → Bool
  | .step => p.step
  | .dir => p.dir
  | .ms1 => p.ms1
  | .ms2 => p.ms2
  | .stby => p.stby

/-- `lvl[p] <- v` (R37). -/
def Pins.setLevel (p : Pins) (o : OutPin) (v : Bool) : Pins :=
  match o with
  | .step => { p with step := v }
  | .dir => { p with dir := v }
  | .ms1 => { p with ms1 := v }
  | .ms2 => { p with ms2 := v }
  | .stby => { p with stby := v }

/-- PRESENT[p] of this instance. -/
def State.hasPin (s : State) (p : Pin) : Bool := s.params.present.has p

/-- The level of an output pin: none where the pin is absent (R37: "An absent pin has no state"). -/
def State.level? (s : State) (o : OutPin) : Option Bool := if s.hasPin o.pin then some (s.pins.level o) else none

/-- The configuration of EN: none where EN is absent (R37). -/
def State.enConfig? (s : State) : Option EnConfig := if s.hasPin .en then some s.pins.en else none

/-- The latch role of STEP and DIR (R45), derived and not stored. -/
inductive LatchRole where
  | normal
  | programming
  deriving DecidableEq, Repr

/-- R45: PROGRAMMING while STBY is present and low. -/
def State.latchRole (s : State) : LatchRole := if s.level? .stby = some false then .programming else .normal

/-- The state the source's Power & Fault machine reports (R46). -/
inductive PowerState where
  | enabled
  | disabled
  deriving DecidableEq, Repr

/-- R46: Enabled exactly when EN is absent or the flag is 1. -/
def State.powerState (s : State) : PowerState := if !s.hasPin .en || s.enabled then .enabled else .disabled

end Sys2Proof.Machine
end

