-- ==== Sys2Proof/Machine/Ops.lean ====
section
/-! DEFINITION. The primitives every command is made of: the ports (R14), time (R15), the ways a command ends (R17,
R91), and the operations several commands share: the position accumulator (R142), the step pulse (R143), the latch
sequence (R177) and the standby body (R196). Each is a total function of the state. A wait here is the
wait as it is when it returns, so a command here is the command as it is when it completes; that it does is R237's fairness
of the clock, and the sequencer of Machine/Sequencer.lean is the same machine poll by poll, with R229's hangs (DESIGN
CHOICE, log entries 1 and 2). -/

namespace Sys2Proof.Machine

/-- The next clock sample (R15, `Now()`). It is no earlier than the last. The clock stays for a free number of samples and
then moves by a free amount of at least 1 µs, so it increases without bound (R237); a faulty clock goes no further than
`clockStop` (R229). -/
def nextClock (s : State) : Nat :=
  let sample := if s.lull = 0 then s.clock + 1 + Config.clockGap s.env s.draws else s.clock
  match s.clockStop with
  | none => sample
  | some stop => max s.clock (min sample stop)

/-- A clock sample is taken (R15). -/
def sampleClock (s : State) : State :=
  { s with
    clock := nextClock s
    lull := if s.lull = 0 then Config.lull s.env s.draws else s.lull - 1
    draws := s.draws + 1 }

/-- Append one event, at the clock's value, to the pin trace (R14). -/
def recordEvent (pin : Pin) (what : PinAction) (s : State) : State :=
  { s with trace := s.trace ++ [⟨s.clock, pin, what⟩] }

/-- `PinWrite(p, v)` (R14): nothing where the pin is absent. -/
def pinWrite (o : OutPin) (v : Bool) (s : State) : State :=
  if s.hasPin o.pin then
    recordEvent o.pin (.drive v) { sampleClock s with pins := s.pins.setLevel o v }
  else s

/-- `PinCfgOutLow(EN)` (R14): one event, and nothing where EN is absent. -/
def pinCfgOutLow (s : State) : State :=
  if s.hasPin .en then recordEvent .en .cfgOutLow { sampleClock s with pins := { s.pins with en := .outLow } } else s

/-- `PinCfgInPullup(EN)` (R14): one event, and nothing where EN is absent. -/
def pinCfgInPullup (s : State) : State :=
  if s.hasPin .en then recordEvent .en .cfgInPullup { sampleClock s with pins := { s.pins with en := .inPullup } } else s

/-- The level a `PinRead(EN)` returns in this state (R194): a free value, the line's while EN is an input, and the
platform's read-back while it is an output (D20). It takes no clock sample (DEDUCED, log entry 13). -/
def enSample (s : State) : Bool :=
  match s.pins.en with
  | .inPullup => Config.enLineLevel s.env s.draws
  | .outLow => Config.enReadback s.env s.draws

/-- `WaitUntil(clock ≥ bound)` (R15): the first sample at which the condition holds, which is any clock value that is
not earlier than the call and at which it holds. -/
def waitUntil (bound : Nat) (s : State) : State := { sampleClock s with clock := max (nextClock s) bound }

/-- `DelayUs(n)` (R15): returns at a clock value at least n greater than at the call. -/
def delayUs (n : Nat) (s : State) : State := waitUntil (s.clock + n) s

/-- The command ends normally (R91): RESULT and ERR NONE are written and the phase is IDLE. -/
def complete (result : Word) (s : State) : State := { s with result := result, err := .none, phase := .idle }

/-- `raise Err(code)` (R17, R220, R225): the command ends at once, RESULT is 0, ERR is the code, the phase is IDLE and
nothing else changes. -/
def raiseErr (code : ErrCode) (s : State) : State := { s with result := 0#32, err := code, phase := .idle }

/-- `Advance(fwd)` (R142). -/
def advance (fwd : Bool) (s : State) : State :=
  if fwd then { s with position := if s.position.toNat + 1 = s.params.spr then 0#32 else s.position + 1#32 }
  else { s with position := if s.position = 0#32 then BitVec.ofNat 32 (s.params.spr - 1) else s.position - 1#32 }

/-- One step pulse (R143): low, at least PULSE_WIDTH_US, high. -/
def pulse (s : State) : State := pinWrite .step true (delayUs s.params.pulseWidthUs (pinWrite .step false s))

/-- STEP's wait (R140, R141 step 2): the release sample is the clock after it. -/
def waitPace (s : State) : State := waitUntil (s.lastPulseTime + s.pulseInterval.toNat) s

/-- One turn of STEP's loop (R141 steps 2 and 3): wait, pulse, advance, and keep the release sample. -/
def pacedPulse (fwd : Bool) (s : State) : State :=
  { advance fwd (pulse (waitPace s)) with lastPulseTime := (waitPace s).clock }

/-- `while n > 0` of STEP (R141). -/
def pacedPulses (fwd : Bool) : Nat → State → State
  | 0, s => s
  | n + 1, s => pacedPulses fwd n (pacedPulse fwd s)

/-- One turn of STEP_FIXED's loop (R160): a pulse, then the wait. -/
def fixedPulse (waitUs : Nat) (s : State) : State := delayUs waitUs (pulse s)

/-- `while n > 0` of STEP_FIXED (R160). -/
def fixedPulses (waitUs : Nat) : Nat → State → State
  | 0, s => s
  | n + 1, s => fixedPulses waitUs n (fixedPulse waitUs s)

/-- Steps 3 of the latch sequence (R177): the four code lines, in the source's order. -/
def driveCode (code : BitVec 4) (s : State) : State :=
  pinWrite .dir (code.getLsbD 3) (pinWrite .step (code.getLsbD 2)
    (pinWrite .ms2 (code.getLsbD 1) (pinWrite .ms1 (code.getLsbD 0) s)))

/-- `LatchSequence(k)` (R177). -/
def latchSequence (m : MicrostepMode) (s : State) : State :=
  pinWrite .stby true (driveCode (s.params.latch.code m) (delayUs Config.settleUs (pinWrite .stby false s)))

/-- `StandbyBody(b)` (R196): nothing where STBY is absent. -/
def standbyBody (b : Bool) (s : State) : State :=
  if s.hasPin .stby then
    if b then pinWrite .stby false s else latchSequence s.microstepMode s
  else s

/-- Time passes while nothing acts (R242): the environment moves the clock. -/
def passTime (s : State) : State := sampleClock s

end Sys2Proof.Machine
end

