-- ==== Sys2Proof/Machine/ModeControl.lean ====
section
/-! DEFINITION. The Mode Controller: SET_MODE (R178). -/

namespace Sys2Proof.Machine

/-- SET_MODE (R178): the latch sequence, the stored mode and RESULT 1; `Err(CAP_MISSING)` where STBY is absent. -/
def execSetMode (mode : MicrostepMode) (s : State) : Host.Outcome State Fault Refusal :=
  .next
    (if s.hasPin .stby then complete 1#32 { latchSequence mode s with microstepMode := mode }
    else raiseErr .capMissing s)

end Sys2Proof.Machine
end

