-- ==== Sys2Proof/Machine/PowerFault.lean ====
section
/-! DEFINITION. The Power & Fault State Machine: ENABLE (R190), IS_ENABLED (R193), IS_FAULT (R194), CLEAR_FAULT (R195),
STANDBY (R196) and RESET (R197). -/

namespace Sys2Proof.Machine

/-- ENABLE (R190). -/
def execEnable (b : Bool) (s : State) : Host.Outcome State Fault Refusal :=
  .next
    (complete 0#32
      (if s.hasPin .en then { (if b then pinCfgInPullup s else pinCfgOutLow s) with enabled := b } else s))

/-- IS_ENABLED (R193): 1 where EN is absent, else the flag. -/
def execIsEnabled (s : State) : Host.Outcome State Fault Refusal :=
  .next (complete (boolWord (!s.hasPin .en || s.enabled)) s)

/-- IS_FAULT (R194): 0 where EN is absent, else 1 when the line is sampled low, afresh at each command. -/
def execIsFault (s : State) : Host.Outcome State Fault Refusal :=
  .next
    (if s.hasPin .en then complete (boolWord (!enSample s)) { s with draws := s.draws + 1 } else complete 0#32 s)

/-- CLEAR_FAULT (R195). -/
def execClearFault (s : State) : Host.Outcome State Fault Refusal :=
  .next
    (complete 0#32
      (if s.hasPin .en then
        { pinCfgInPullup (delayUs s.params.clearFaultLowUs (pinCfgOutLow s)) with enabled := true }
      else s))

/-- STANDBY (R196). -/
def execStandby (b : Bool) (s : State) : Host.Outcome State Fault Refusal :=
  .next (complete 0#32 (standbyBody b s))

/-- RESET, the command (R197). The middle wait happens whether or not STBY is present (D21). -/
def execReset (s : State) : Host.Outcome State Fault Refusal :=
  .next (complete 0#32 (standbyBody false (delayUs Config.settleUs (standbyBody true s))))

end Sys2Proof.Machine
end

