-- ==== Sys2Proof/Machine/Stepping.lean ====
section
/-! DEFINITION. The Stepping Engine (STEP, R141) and the Blocking Step (STEP_FIXED, R160). -/

namespace Sys2Proof.Machine

/-- STEP (R141). A count of −2^31 spells no command and ends in `Err(ILLEGAL)` (R92, R98; DEDUCED, log entry 17). -/
def execStep (count : Word) (s : State) : Host.Outcome State Fault Refusal :=
  .next
    (if count.isCount then
      complete 0#32 (pacedPulses (isForward count) (pulseCount count) (pinWrite .dir (isForward count) s))
    else raiseErr .illegal s)

/-- STEP_FIXED (R160). A count of −2^31 spells no command and ends in `Err(ILLEGAL)` (R92, R98; DEDUCED, log entry
17). -/
def execStepFixed (count interval : Word) (s : State) : Host.Outcome State Fault Refusal :=
  .next
    (if count.isCount then
      complete 0#32
        (fixedPulses (fixedWaitUs s.params interval) (pulseCount count) (pinWrite .dir (isForward count) s))
    else raiseErr .illegal s)

end Sys2Proof.Machine
end

