-- ==== Sys2Proof/Machine/Timing.lean ====
section
/-! DEFINITION. The Timing Model: MSPS (R121) and SET_SPEED (R122). Neither touches a pin or reads the clock. -/

namespace Sys2Proof.Machine

/-- MSPS (R121): RESULT is the divisor of the command's mode. -/
def execMsps (mode : MicrostepMode) (s : State) : Host.Outcome State Fault Refusal :=
  .next (complete (BitVec.ofNat 32 (divisor mode)) s)

/-- SET_SPEED (R122): `pulse_interval` from SPR and the mode stored now; RESULT 0. -/
def execSetSpeed (rpm : Word) (s : State) : Host.Outcome State Fault Refusal :=
  .next (complete 0#32 { s with pulseInterval := BitVec.ofNat 32 (intervalFor s.params.spr s.microstepMode rpm) })

end Sys2Proof.Machine
end

