-- ==== Sys2Proof/Machine/Dispatch.lean ====
section
/-! DEFINITION. What each command does from issue to completion, one arm per constructor of `Instr`. -/

namespace Sys2Proof.Machine

def exec (i : Instr) (s : State) : Host.Outcome State Fault Refusal :=
  match i with
  | .setSpeed rpm => Sys2Proof.Machine.execSetSpeed rpm s
  | .msps mode => Sys2Proof.Machine.execMsps mode s
  | .step count => Sys2Proof.Machine.execStep count s
  | .stepFixed count interval => Sys2Proof.Machine.execStepFixed count interval s
  | .setMode mode => Sys2Proof.Machine.execSetMode mode s
  | .enable b => Sys2Proof.Machine.execEnable b s
  | .isEnabled => Sys2Proof.Machine.execIsEnabled s
  | .isFault => Sys2Proof.Machine.execIsFault s
  | .clearFault => Sys2Proof.Machine.execClearFault s
  | .standby b => Sys2Proof.Machine.execStandby b s
  | .reset => Sys2Proof.Machine.execReset s

end Sys2Proof.Machine
end

