-- ==== Sys2Proof/Machine/Sequencer.lean ====
section
/-! DEFINITION. The sequencer of R44, one primitive at a time: each command's pseudocode as a script of primitives, the
effect of one primitive at the point reached, and one move of the block. A wait is a poll of the clock that may find its
condition not yet true; then the point does not move, and a clock that stops short of the bound leaves it there for ever
(R145, R229).
DESIGN CHOICE (log entry 12): what counts as one primitive. -/

namespace Sys2Proof.Machine

/-- What a pin write drives (R141, R160, R177). -/
inductive Source where
  | const (v : Bool)
  /-- The local `fwd`. -/
  | fwd
  /-- Bit i of the local `code`. -/
  | codeBit (i : Nat)
  deriving DecidableEq, Repr

/-- Where a latch sequence takes its mode from. -/
inductive ModeSource where
  /-- SET_MODE's operand (R178). -/
  | given (m : MicrostepMode)
  /-- The stored `microstep_mode` (R196). -/
  | stored
  deriving DecidableEq, Repr

/-- One line of a command's pseudocode. -/
inductive Prim where
  /-- `PinWrite(p, v)`. -/
  | pinWrite (o : OutPin) (v : Source)
  /-- `PinCfgOutLow(EN)`. -/
  | cfgOutLow
  /-- `PinCfgInPullup(EN)`. -/
  | cfgInPullup
  /-- `DelayUs(n)`. -/
  | delay (us : Nat)
  /-- STEP's `t <- WaitUntil(...)`: the phase POLL. -/
  | waitPace
  /-- `Advance(fwd)`. -/
  | advance
  /-- `last_pulse_time <- t`. -/
  | stamp
  /-- `while n > 0`, with the point after the loop. -/
  | whileMore (exit : Nat)
  /-- `n <- n - 1`, then back to the loop's test. -/
  | again (target : Nat)
  /-- `code <- LATCH_CODE(k)`. -/
  | loadCode (m : ModeSource)
  /-- `microstep_mode <- k`. -/
  | setMode (m : MicrostepMode)
  /-- `enabled <- b`. -/
  | setEnabled (b : Bool)
  /-- SET_SPEED's assignment to `pulse_interval`. -/
  | setInterval (rpm : Word)
  /-- `x[RESULT] <- v`. -/
  | result (v : Word)
  /-- `x[RESULT] <- enabled`. -/
  | resultEnabled
  /-- `v <- PinRead(EN)`, then `x[RESULT] <- (v = 0) ? 1 : 0`. -/
  | resultFault
  /-- `raise Err(code)`. -/
  | raise (code : ErrCode)
  deriving DecidableEq, Repr

/-- `LatchSequence(k)` (R177). -/
def latchScript (m : ModeSource) : List Prim :=
  [.pinWrite .stby (.const false), .delay Config.settleUs, .loadCode m, .pinWrite .ms1 (.codeBit 0),
   .pinWrite .ms2 (.codeBit 1), .pinWrite .step (.codeBit 2), .pinWrite .dir (.codeBit 3),
   .pinWrite .stby (.const true)]

/-- `StandbyBody(b)` (R196), for a block whose STBY is present or not. -/
def standbyScript (stby b : Bool) : List Prim :=
  if stby then (if b then [.pinWrite .stby (.const false)] else latchScript .stored) else []

/-- The pseudocode of a command (R121, R122, R141, R160, R178, R190 to R197). PRESENT is a parameter, so a test of it
is decided here. STEP's points: 1 the loop test, 2 POLL, 3 to 8 PULSE, 9 DONE. -/
def script (p : Params) : Instr → List Prim
  | .setSpeed rpm => [.setInterval rpm, .result 0#32]
  | .msps mode => [.result (BitVec.ofNat 32 (divisor mode))]
  | .step _ =>
    [.pinWrite .dir .fwd, .whileMore 9, .waitPace, .pinWrite .step (.const false), .delay p.pulseWidthUs,
     .pinWrite .step (.const true), .advance, .stamp, .again 1, .result 0#32]
  | .stepFixed _ interval =>
    [.pinWrite .dir .fwd, .whileMore 7, .pinWrite .step (.const false), .delay p.pulseWidthUs,
     .pinWrite .step (.const true), .delay (fixedWaitUs p interval), .again 1, .result 0#32]
  | .setMode mode =>
    if p.present.stby then latchScript (.given mode) ++ [.setMode mode, .result 1#32]
    else [.result 0#32, .raise .capMissing]
  | .enable b =>
    if p.present.en then [if b then .cfgInPullup else .cfgOutLow, .setEnabled b, .result 0#32] else [.result 0#32]
  | .isEnabled => if p.present.en then [.resultEnabled] else [.result 1#32]
  | .isFault => if p.present.en then [.resultFault] else [.result 0#32]
  | .clearFault =>
    if p.present.en then
      [.cfgOutLow, .delay p.clearFaultLowUs, .cfgInPullup, .setEnabled true, .result 0#32]
    else [.result 0#32]
  | .standby b => standbyScript p.present.stby b ++ [.result 0#32]
  | .reset =>
    standbyScript p.present.stby true ++ .delay Config.settleUs :: standbyScript p.present.stby false ++ [.result 0#32]

/-- The local variables when a command begins (R141, R160): its pulse count and direction, where it has a count. -/
def initialLocals (c : Instr) : Locals :=
  match c with
  | .step count | .stepFixed count _ =>
    { n := pulseCount count, fwd := isForward count, code := 0#4, t := 0, since := none }
  | .setSpeed _ | .msps _ | .setMode _ | .enable _ | .isEnabled | .isFault | .clearFault | .standby _ | .reset =>
    { n := 0, fwd := false, code := 0#4, t := 0, since := none }

/-- The value a source gives. -/
def Source.value (l : Locals) : Source → Bool
  | .const v => v
  | .fwd => l.fwd
  | .codeBit i => l.code.getLsbD i

/-- The mode a source gives. -/
def ModeSource.mode (s : State) : ModeSource → MicrostepMode
  | .given m => m
  | .stored => s.microstepMode

/-- The sequencer is at a point of a command, with these locals. -/
def runAt (c : Instr) (point : Nat) (l : Locals) (s : State) : State := { s with phase := .run c point l }

/-- One primitive of command `c` at `point` (R44). `whileMore`, `again`, `delay` and `waitPace` say themselves where the
point goes; every other primitive moves it on by one. -/
def perform (c : Instr) (point : Nat) (l : Locals) (s : State) : Prim → State
  | .pinWrite o v => runAt c (point + 1) l (pinWrite o (v.value l) s)
  | .cfgOutLow => runAt c (point + 1) l (pinCfgOutLow s)
  | .cfgInPullup => runAt c (point + 1) l (pinCfgInPullup s)
  | .delay us =>
    match l.since with
    | none => runAt c point { l with since := some s.clock } s
    | some t0 =>
      if t0 + us ≤ (sampleClock s).clock then runAt c (point + 1) { l with since := none } (sampleClock s)
      else sampleClock s
  | .waitPace =>
    if s.lastPulseTime + s.pulseInterval.toNat ≤ (sampleClock s).clock then
      runAt c (point + 1) { l with t := (sampleClock s).clock } (sampleClock s)
    else sampleClock s
  | .advance => runAt c (point + 1) l (advance l.fwd s)
  | .stamp => runAt c (point + 1) l { s with lastPulseTime := l.t }
  | .whileMore exit => runAt c (if l.n = 0 then exit else point + 1) l s
  | .again target => runAt c target { l with n := l.n - 1 } s
  | .loadCode m => runAt c (point + 1) { l with code := s.params.latch.code (m.mode s) } s
  | .setMode m => runAt c (point + 1) l { s with microstepMode := m }
  | .setEnabled b => runAt c (point + 1) l { s with enabled := b }
  | .setInterval rpm =>
    runAt c (point + 1) l
      { s with pulseInterval := BitVec.ofNat 32 (intervalFor s.params.spr s.microstepMode rpm) }
  | .result v => runAt c (point + 1) l { s with result := v }
  | .resultEnabled => runAt c (point + 1) l { s with result := boolWord s.enabled }
  | .resultFault => runAt c (point + 1) l { s with result := boolWord (!enSample s), draws := s.draws + 1 }
  | .raise code => raiseErr code s

/-- The pseudocode has ended without an error (R91): ERR is NONE, BUSY is 0 and the phase is IDLE. -/
def finish (s : State) : State := { s with err := .none, phase := .idle }

/-- One move of the block (R44, R91): decode a latched word, perform one primitive, or end the command; while IDLE only
time passes. -/
def blockMove (s : State) : State :=
  match s.phase with
  | .idle => passTime s
  | .start w a0 a1 =>
    match decode w a0 a1 with
    | .error _ => raiseErr .illegal s
    | .ok c => runAt c 0 (initialLocals c) s
  | .run c point l =>
    match (script s.params c)[point]? with
    | none => finish s
    | some p => perform c point l s p

/-- `k` moves of the block. -/
def blockMoves : Nat → State → State
  | 0, s => s
  | k + 1, s => blockMoves k (blockMove s)

/-- The points R44 names in STEP, those of the source's `advance() → pending, pulsed, done`. -/
inductive StepPoint where
  | poll
  | pulse
  | done
  deriving DecidableEq, Repr

/-- Which of R44's points a STEP has reached, as R141's `phase <- BUSY(STEP, ...)` assigns them: none before the first of
those assignments, and none for any other command. At the loop test (point 1) PULSE stands until POLL or DONE is assigned,
where a turn of the loop has been made. -/
def State.stepPoint? (s : State) : Option StepPoint :=
  match s.phase with
  | .run (.step count) point l =>
    if point = 2 then some .poll
    else if 3 ≤ point ∧ point ≤ 8 then some .pulse
    else if 9 ≤ point then some .done
    else if point = 1 ∧ l.n < pulseCount count then some .pulse
    else none
  | _ => none

/-- The clock value the current wait is for, where the sequencer is in one (R15): a paced pulse's release, or the end of
a delay that has begun. -/
def State.waitBound? (s : State) : Option Nat :=
  match s.phase with
  | .idle => none
  | .start _ _ _ => none
  | .run c point l =>
    match (script s.params c)[point]?, l.since with
    | some .waitPace, _ => some (s.lastPulseTime + s.pulseInterval.toNat)
    | some (.delay us), some t0 => some (t0 + us)
    | _, _ => none

end Sys2Proof.Machine
end

