-- ==== Sys2Proof/Machine/HostBus.lean ====
section
/-! DEFINITION. The host's register interface: the map of R71, what a read returns (R42, R43, R76), what a write does
(R43, R77), and which accesses are refused (R72 to R74), in the order of R224. -/

namespace Sys2Proof.Machine

/-- The ten registers of R71. -/
inductive HostReg where
  | cmd
  | arg0
  | arg1
  | result
  | status
  | position
  | pulseInterval
  | mode
  | spr
  | present
  deriving DecidableEq, Repr

/-- The offset column of R71. -/
def HostReg.offset : HostReg → Nat
  | .cmd => 0x00
  | .arg0 => 0x04
  | .arg1 => 0x08
  | .result => 0x0C
  | .status => 0x10
  | .position => 0x14
  | .pulseInterval => 0x18
  | .mode => 0x1C
  | .spr => 0x20
  | .present => 0x24

/-- Every register, in the order of R71. -/
def HostReg.all : List HostReg :=
  [.cmd, .arg0, .arg1, .result, .status, .position, .pulseInterval, .mode, .spr, .present]

/-- The access column of R71: which registers a host may write (R74). -/
def HostReg.writable : HostReg → Bool
  | .cmd | .arg0 | .arg1 => true
  | .result | .status | .position | .pulseInterval | .mode | .spr | .present => false

/-- The register an access of `bytes` bytes at an offset reaches, where R72 admits it: 4 bytes, a multiple of 4, mapped.
0x28 to 0xFC, and anything beyond the aperture, is mapped to none (R73). -/
def accessReg? (offset bytes : Nat) : Option HostReg :=
  if bytes = 4 ∧ offset % 4 = 0 then HostReg.all.find? fun r => r.offset == offset else none

/-- The size of the aperture in bytes (R70). -/
def apertureBytes : Nat := 256

/-- The offset from BASE of a platform address, where it lies in this block's aperture (R13, R70). -/
def offsetInAperture? (p : Params) (address : Nat) : Option Nat :=
  if p.base ≤ address ∧ address < p.base + apertureBytes then some (address - p.base) else none

/-- The value of a register that no command changes while it executes, or any register but CMD while IDLE (R42, R75,
R76); none where a read returns a draw. -/
def regValue? (r : HostReg) (s : State) : Option Word :=
  match r with
  | .cmd => none
  | .arg0 => some s.arg0
  | .arg1 => some s.arg1
  | .result => if s.busy then none else some s.result
  | .status => some s.status
  | .position => if s.busy then none else some s.position
  | .pulseInterval => if s.busy then none else some s.pulseInterval
  | .mode => if s.busy then none else some (0#28 ++ s.microstepMode.code)
  | .spr => some (BitVec.ofNat 32 s.params.spr)
  | .present => some (presentWord s.params.present)

/-- The refusal mark is set and nothing else changes (R73). -/
def refuseAccess (s : State) : State := { s with refusalMark := true }

/-- A model fault joins the fault set, once (R227). -/
def raiseFault (f : Fault) (s : State) : State := { s with faults := if f ∈ s.faults then s.faults else s.faults ++ [f] }

/-- `MemRead(offset, bytes)` (R72 to R76). A read of STATUS that gives BUSY = 0 observes the completion of the last command
(R244). -/
def hostRead (offset bytes : Nat) (s : State) : State :=
  match accessReg? offset bytes with
  | none => refuseAccess s
  | some r =>
    match regValue? r s with
    | some v => { s with readData := v, observed := s.observed || (r == .status && !s.busy) }
    | none => { s with readData := Config.busyRead s.env s.draws, draws := s.draws + 1 }

/-- A write to a writable register while IDLE: ARG0 and ARG1 take the value (R75), CMD latches the command (R43, R91), whose
completion is then yet to be observed (R244). A read-only register is not written. -/
def writeReg (r : HostReg) (v : Word) (s : State) : State :=
  match r with
  | .cmd => { s with phase := .start v s.arg0 s.arg1, observed := false }
  | .arg0 => { s with arg0 := v }
  | .arg1 => { s with arg1 := v }
  | .result | .status | .position | .pulseInterval | .mode | .spr | .present => s

/-- `MemWrite(offset, bytes, v)`: refusal first, then CONCURRENT_ACCESS, then the write (R224). The value of an access
that is not of 4 bytes is never used. -/
def hostWrite (offset bytes : Nat) (v : Word) (s : State) : State :=
  match accessReg? offset bytes with
  | none => refuseAccess s
  | some r =>
    if !r.writable then refuseAccess s
    else if s.busy then raiseFault .concurrentAccess s
    else writeReg r v s

/-- One host access. -/
def hostAccess (a : Access) (s : State) : State :=
  match a with
  | .read offset bytes => hostRead offset bytes s
  | .write offset bytes v => hostWrite offset bytes v s

/-- The host's accesses for one command (R102): ARG0 and ARG1 where the command takes them, then CMD, then the poll. -/
def hostExpansion (i : Instr) : List HostTurn :=
  (i.arg0?.map fun v => HostTurn.access (.write 0x04 4 v)).toList
    ++ (i.arg1?.map fun v => HostTurn.access (.write 0x08 4 v)).toList
    ++ [.access (.write 0x00 4 i.cmdWord), .poll]

end Sys2Proof.Machine
end

