-- ==== Sys2Proof/Machine/Step.lean ====
section
/-! DEFINITION. One step of the machine: the host's next turn, or a move of the block. Under R237's assumption on the
clock, a command that has been issued and that the host only waits for is performed whole, as `exec` of it (R147: one command
from the host's view). A command that a host access falls into, and any command while the clock is faulty, is performed
primitive by primitive (R44), for ever where a wait does not return (R229). DESIGN CHOICE (log entry 1). -/

namespace Sys2Proof.Machine

/-- The block's part of a step in which the host takes no access: a latched command is decoded and performed whole (R91),
which R237 lets it be; a command already under way, or one issued while the clock is faulty (R229), moves by one primitive;
and while IDLE time passes. -/
def blockStep (s : State) : Host.Outcome State Fault Refusal :=
  match s.phase with
  | .idle => .next (passTime s)
  | .start w a0 a1 =>
    match decode w a0 a1 with
    | .ok i => if s.clockStop = none then exec i s else .next (blockMove s)
    | .error _ => .next (raiseErr .illegal s)
  | .run _ _ _ => .next (blockMove s)

/-- A poll of STATUS (R102): done when BUSY reads 0; otherwise the block goes on and the host polls again. -/
def pollStep (rest : List HostTurn) (s : State) : Host.Outcome State Fault Refusal :=
  if s.busy then blockStep s else .next { s with host := rest, readData := s.status, observed := true }

/-- One step (R242). -/
def step (s : State) : Host.Outcome State Fault Refusal :=
  match s.host with
  | [] => blockStep s
  | .access a :: rest => .next (hostAccess a { s with host := rest })
  | .yield :: rest => .next (blockMove { s with host := rest })
  | .poll :: rest => pollStep rest s

/-- `s` with an instruction issued: its CMD word latched with its ARG0 and ARG1, and the host waiting for it. This stands
for the accesses of R102 that issue a command (log entry 8); the table's numbering of the bits is
`Sys2Proof.tableWords` (log entry 9). -/
def State.withFetchWord (s : State) (nbits w : Nat) : State :=
  { s with
    arg0 := (tableWords nbits w).2.1
    arg1 := (tableWords nbits w).2.2
    phase := .start (tableWords nbits w).1 (tableWords nbits w).2.1 (tableWords nbits w).2.2
    host := .poll :: s.host
    observed := false }

end Sys2Proof.Machine
end

