-- ==== Sys2Proof/Machine/Assembler.lean ====
section
/-! DEFINITION. The assembler of R100 and the pseudo-commands of R101: a line of text, as a list of characters, to the
command it spells, which the host then carries out by the accesses of R102. DESIGN CHOICE (log entry 15): what R100 leaves
open of a line's form. -/

namespace Sys2Proof.Machine

/-- A finished token, if any characters have been collected. -/
def flushToken (cur : List Char) : List (List Char) := if cur.isEmpty then [] else [cur]

/-- The tokens of a line: words and commas, up to a `;` (R100). -/
def lexFrom (cur : List Char) : List Char → List (List Char)
  | [] => flushToken cur
  | c :: cs =>
    if c = ';' then flushToken cur
    else if c = ' ' ∨ c = '\t' then flushToken cur ++ lexFrom [] cs
    else if c = ',' then flushToken cur ++ [','] :: lexFrom [] cs
    else lexFrom (cur ++ [c]) cs

/-- The value of a digit in a base of 10 or 16. -/
def digit? (base : Nat) (c : Char) : Option Nat :=
  let n := c.toNat
  let v? :=
    if 48 ≤ n ∧ n ≤ 57 then some (n - 48)
    else if 65 ≤ n ∧ n ≤ 70 then some (n - 55)
    else if 97 ≤ n ∧ n ≤ 102 then some (n - 87)
    else none
  v?.filter fun v => v < base

/-- The value of a string of digits, most significant first, after those already read. -/
def digitsFrom? (base acc : Nat) : List Char → Option Nat
  | [] => some acc
  | c :: cs => (digit? base c).bind fun d => digitsFrom? base (acc * base + d) cs

/-- An unsigned integer: decimal, or hexadecimal after `0x` (R100). -/
def natToken? (t : List Char) : Option Nat :=
  match t with
  | [] => none
  | '0' :: 'x' :: ds => if ds.isEmpty then none else digitsFrom? 16 0 ds
  | ds => digitsFrom? 10 0 ds

/-- A signed operand: an integer with an optional leading `-`, in the range of `sint32` (R97, R100). -/
def signedToken? (t : List Char) : Option Word :=
  let v? : Option Int :=
    match t with
    | '-' :: ds => (natToken? ds).map fun n => -(n : Int)
    | ds => (natToken? ds).map fun n => (n : Int)
  (v?.filter fun v => -(2 ^ 31) ≤ v ∧ v < 2 ^ 31).map fun v => BitVec.ofInt 32 v

/-- An unsigned operand in the range of `uint32` (R97, R100). -/
def unsignedToken? (t : List Char) : Option Word :=
  ((natToken? t).filter fun v => v < 2 ^ 32).map fun v => BitVec.ofNat 32 v

/-- A boolean operand: 0 or 1 (R100). -/
def boolToken? (t : List Char) : Option Bool :=
  if t = ['0'] then some false else if t = ['1'] then some true else none

/-- A mode's mnemonic (R35). -/
def MicrostepMode.mnemonic : MicrostepMode → List Char
  | .full => ['F', 'U', 'L', 'L']
  | .m2 => ['M', '2']
  | .m4 => ['M', '4']
  | .m8 => ['M', '8']
  | .m16 => ['M', '1', '6']
  | .m32 => ['M', '3', '2']
  | .m64 => ['M', '6', '4']
  | .m128 => ['M', '1', '2', '8']
  | .m256 => ['M', '2', '5', '6']

/-- A mode operand: a mnemonic, or a decimal k from 0 to 8 (R100). -/
def modeToken? (t : List Char) : Option MicrostepMode :=
  match MicrostepMode.all.find? fun m => MicrostepMode.mnemonic m == t with
  | some m => some m
  | none =>
    if t.isEmpty then none
    else ((digitsFrom? 10 0 t).filter fun k => k ≤ 8).bind fun k => MicrostepMode.ofCode? (BitVec.ofNat 4 k)

/-- The pseudo-commands of R101. -/
inductive Pseudo where
  /-- `ENABLE` with no operand. -/
  | enable
  | disable
  | sleep
  | wake
  deriving DecidableEq, Repr

/-- R101's expansions. -/
def Pseudo.expand : Pseudo → Instr
  | .enable => .enable true
  | .disable => .enable false
  | .sleep => .standby true
  | .wake => .standby false

/-- What a mnemonic of R100 or R101 stands for. -/
inductive Mnemonic where
  | command (op : Opcode)
  | pseudo (p : Pseudo)
  deriving DecidableEq, Repr

/-- The mnemonics of R100 and R101. ENABLE is a command with an operand and a pseudo-command without. -/
def mnemonicTable : List (List Char × Mnemonic) :=
  [("SET_SPEED".toList, .command .setSpeed),
   ("MSPS".toList, .command .msps),
   ("STEP".toList, .command .step),
   ("STEP_FIXED".toList, .command .stepFixed),
   ("SET_MODE".toList, .command .setMode),
   ("ENABLE".toList, .command .enable),
   ("IS_ENABLED".toList, .command .isEnabled),
   ("IS_FAULT".toList, .command .isFault),
   ("CLEAR_FAULT".toList, .command .clearFault),
   ("STANDBY".toList, .command .standby),
   ("RESET".toList, .command .reset),
   ("DISABLE".toList, .pseudo .disable),
   ("SLEEP".toList, .pseudo .sleep),
   ("WAKE".toList, .pseudo .wake)]

/-- A command and its operand tokens (R100's syntax column). -/
def parseCommand (op : Opcode) (operands : List (List Char)) : Option Instr :=
  match op, operands with
  | .setSpeed, [t] => (signedToken? t).map .setSpeed
  | .msps, [t] => (modeToken? t).map .msps
  | .step, [t] => (signedToken? t).map .step
  | .stepFixed, [t, [','], u] => (signedToken? t).bind fun c => (unsignedToken? u).map fun w => .stepFixed c w
  | .setMode, [t] => (modeToken? t).map .setMode
  | .enable, [] => some Pseudo.enable.expand
  | .enable, [t] => (boolToken? t).map .enable
  | .isEnabled, [] => some .isEnabled
  | .isFault, [] => some .isFault
  | .clearFault, [] => some .clearFault
  | .standby, [t] => (boolToken? t).map .standby
  | .reset, [] => some .reset
  | _, _ => none

/-- One assembler line (R100): no command for a blank or comment line, one command for a line that spells it, and none
where the line is no line of the syntax. -/
def assembleLine (line : List Char) : Option (List Instr) :=
  match lexFrom [] line with
  | [] => some []
  | t :: operands =>
    match (mnemonicTable.find? fun e => e.1 == t).map Prod.snd with
    | none => none
    | some (.command op) => (parseCommand op operands).map fun i => [i]
    | some (.pseudo p) => if operands.isEmpty then some [p.expand] else none

/-- The host's turns for a program of assembler lines (R102, R244). -/
def programTurns (lines : List (List Char)) : Option (List HostTurn) :=
  (lines.mapM assembleLine).map fun is => is.flatten.flatMap hostExpansion

end Sys2Proof.Machine
end

