-- ==== Sys2Proof/Machine/Instances.lean ====
section
/-! DEFINITION. Several motors (R81, R239): several block instances, each with its own state, BASE and host, none of them
sharing anything with another. Each is connected to an environment of its own, so that no law relates their clocks or
their EN lines (log entry 4). The order in which they step is nobody's (R81), so a step names the instance that takes it
(DESIGN CHOICE, log entry 16). -/

namespace Sys2Proof.Machine

/-- Several motors (R239): one block per pair of parameters and OPEN values, each from its own reset, the one numbered `k`
connected to environment `k`; refused where any of them is out of range (R260). -/
def constructAll (blocks : List (Params × Init)) : Host.Outcome (List State) Fault Refusal :=
  if blocks.all fun b => b.1.valid && b.2.valid b.1 then .next (blocks.mapIdx fun k b => State.atReset b.1 b.2 k)
  else .refused .construction

/-- One step of the instance numbered `k`; the others do not move (R239). A number that is no instance's does nothing. -/
def stepInstance (k : Nat) (blocks : List State) : Host.Outcome (List State) Fault Refusal :=
  match blocks[k]? with
  | none => .next blocks
  | some s =>
    match step s with
    | .next t => .next (blocks.set k t)
    | .fault f => .fault f
    | .refused r => .refused r

/-- The instance whose aperture holds a platform address, and the offset from its BASE (R13, R70, R239). -/
def instanceAt? (address : Nat) : List State → Option (Nat × Nat)
  | [] => none
  | s :: rest =>
    match offsetInAperture? s.params address with
    | some offset => some (0, offset)
    | none => (instanceAt? address rest).map fun e => (e.1 + 1, e.2)

/-- A platform read of `bytes` bytes: an access to the instance whose aperture holds the address, and none where it is
in no instance's aperture (R71: what else the platform maps is left to the platform). -/
def platformRead (address bytes : Nat) (blocks : List State) : List State :=
  match instanceAt? address blocks with
  | none => blocks
  | some (k, offset) => blocks.modify k (hostRead offset bytes)

/-- A platform write, as `platformRead`. -/
def platformWrite (address bytes : Nat) (v : Word) (blocks : List State) : List State :=
  match instanceAt? address blocks with
  | none => blocks
  | some (k, offset) => blocks.modify k (hostWrite offset bytes v)

end Sys2Proof.Machine
end

