-- ==== Sys2Proof/Safety.lean ====
section
/-! DEFINITION. What claims are stated in: the invariant of R48 with what holds of the phase, the trace and the fault
set; the end of a run (R244); a state with its times left out; and how far a command is from its end (R237). -/

namespace Sys2Proof.Machine

/-- The points of STEP and STEP_FIXED that are inside the loop, past its test (R141, R160). -/
def insideLoop : Instr → Nat → Bool
  | .step _, point => decide (2 ≤ point) && decide (point ≤ 8)
  | .stepFixed _ _, point => decide (2 ≤ point) && decide (point ≤ 6)
  | .setSpeed _, _ | .msps _, _ | .setMode _, _ | .enable _, _ | .isEnabled, _ | .isFault, _ | .clearFault, _
  | .standby _, _ | .reset, _ => false

/-- What holds of the phase (R44, R91): a latched word's operands are the ARG registers, which cannot change while BUSY
(R77); a command under way is one an encoding spells, its remaining count is at most the count it began with, is that
count at the first point and is not 0 inside the loop, its direction is its operand's, the clock values it holds are no
later than the clock, and a delay has begun only where the point is at one. -/
def State.PhaseInv (s : State) : Prop :=
  match s.phase with
  | .idle => True
  | .start _ a0 a1 => a0 = s.arg0 ∧ a1 = s.arg1
  | .run c point l =>
    c.wellFormed = true ∧ l.n ≤ (initialLocals c).n ∧ l.fwd = (initialLocals c).fwd
      ∧ (point = 0 → l.n = (initialLocals c).n) ∧ (insideLoop c point = true → 0 < l.n) ∧ l.t ≤ s.clock
      ∧ (∀ t0, l.since = some t0 → t0 ≤ s.clock ∧ ∃ us, (script s.params c)[point]? = some (.delay us))

/-- The invariant of the machine: R8's ranges, R48's invariants, a clock no later than where it stops (R229), R37's
silence of absent pins, R80's order of event times, and the fault set without repeats (R47). -/
structure State.Inv (s : State) : Prop where
  params : s.params.valid = true
  interval : 1 ≤ s.pulseInterval.toNat
  position : s.position.toNat < s.params.spr
  lastPulse : s.lastPulseTime ≤ s.clock
  clockStop : ∀ stop, s.clockStop = some stop → s.clock ≤ stop
  traceOrder : s.trace.Pairwise fun e f => e.time ≤ f.time
  tracePast : ∀ e ∈ s.trace, e.time ≤ s.clock
  tracePins : ∀ e ∈ s.trace, s.hasPin e.pin = true
  faultSet : s.faults.Nodup
  phase : s.PhaseInv

/-- The end of a run (R244): the host has no turn left, BUSY = 0 has been read after the last CMD write, the phase is IDLE,
the fault set is empty and the refusal mark is clear. -/
def State.final (s : State) : Bool :=
  s.host.isEmpty && s.observed && !s.busy && s.faults.isEmpty && !s.refusalMark

/-- The clock is below 2^CLOCK_WIDTH, where the physical timestamp has not wrapped (R18, R238, D24). -/
def State.clockFits (s : State) : Bool := decide (s.clock < 2 ^ Config.clockWidth)

/-- R92's checks read as conditions on the word and on the ARG0 latched with it: each is a reason why they spell no
command (R98). -/
def SpellsNoCommand (w a0 : Word) : Prop :=
  w.extractLsb' 0 8 ∉ ([0x01, 0x02, 0x10, 0x11, 0x20, 0x30, 0x31, 0x32, 0x33, 0x34, 0x35] : List (BitVec 8))
    ∨ w.extractLsb' 13 19 ≠ 0#19
    ∨ (w.extractLsb' 0 8 ≠ 0x02#8 ∧ w.extractLsb' 0 8 ≠ 0x20#8 ∧ w.extractLsb' 8 4 ≠ 0#4)
    ∨ (w.extractLsb' 0 8 ≠ 0x30#8 ∧ w.extractLsb' 0 8 ≠ 0x34#8 ∧ w.getLsbD 12 = true)
    ∨ ((w.extractLsb' 0 8 = 0x02#8 ∨ w.extractLsb' 0 8 = 0x20#8) ∧ 8 < (w.extractLsb' 8 4).toNat)
    ∨ ((w.extractLsb' 0 8 = 0x10#8 ∨ w.extractLsb' 0 8 = 0x11#8) ∧ a0 = 0x80000000#32)

/-- What an instruction rule says of its encoding and of its illegal words: of the words with this OPC, those that have
the form `P` gives (with ARG0 and ARG1 beside them) decode to the command it names, and every other is illegal. -/
def OpcodeSpells (opc : BitVec 8) (P : Word → Word → Word → Instr → Prop) : Prop :=
  ∀ w a0 a1 : Word, w.extractLsb' 0 8 = opc →
    (∀ i, P w a0 a1 i → decode w a0 a1 = .ok i) ∧ ((∀ i, ¬P w a0 a1 i) → ∃ e, decode w a0 a1 = .error e)

/-- What an event did, its time left out. -/
def PinEvent.shape (e : PinEvent) : Pin × PinAction := (e.pin, e.what)

/-- From `s` to `t` time does not go back, and the trace grows by events of exactly this shape, at times that do not
decrease and lie between the two clocks (R14, R80). -/
def Emits (s t : State) (shape : List (Pin × PinAction)) : Prop :=
  s.clock ≤ t.clock ∧ ∃ events : List PinEvent,
    t.trace = s.trace ++ events ∧ events.map PinEvent.shape = shape
      ∧ (events.Pairwise fun e f => e.time ≤ f.time) ∧ ∀ e ∈ events, s.clock ≤ e.time ∧ e.time ≤ t.clock

/-- A state with its times left out: the clock, its lull, the draws taken, `last_pulse_time` and the times of the trace's
events. -/
def State.untimed (s : State) : State :=
  { s with clock := 0, lull := 0, draws := 0, lastPulseTime := 0, trace := s.trace.map fun e => { e with time := 0 } }

/-- The writes of a latch code to the pins, in the order of R177, those of absent pins left out (R14). -/
def latchShape (p : Params) (code : BitVec 4) : List (Pin × PinAction) :=
  [(Pin.stby, PinAction.drive false), (.ms1, .drive (code.getLsbD 0)), (.ms2, .drive (code.getLsbD 1)),
   (.step, .drive (code.getLsbD 2)), (.dir, .drive (code.getLsbD 3)), (.stby, .drive true)].filter
    fun e => p.present.has e.1

/-- The levels a latch sequence leaves (R177, R276): STBY high and, on each line that is present, its bit of the code. -/
def latchedPins (present : Present) (code : BitVec 4) (p : Pins) : Pins :=
  { step := if present.step then code.getLsbD 2 else p.step
    dir := if present.dir then code.getLsbD 3 else p.dir
    ms1 := if present.ms1 then code.getLsbD 0 else p.ms1
    ms2 := if present.ms2 then code.getLsbD 1 else p.ms2
    stby := if present.stby then true else p.stby
    en := p.en }

/-- DIR's one write of a STEP or STEP_FIXED (R141, R160), none where DIR is absent. -/
def dirShape (p : Params) (fwd : Bool) : List (Pin × PinAction) :=
  if p.present.dir then [(.dir, .drive fwd)] else []

/-- The two writes of each of `n` pulses (R143), none where STEP is absent (R146). -/
def pulsesShape (p : Params) (n : Nat) : List (Pin × PinAction) :=
  (List.replicate n (if p.present.step then [(Pin.step, PinAction.drive false), (.step, .drive true)] else [])).flatten

/-- The times of one pulse's two events: STEP low and STEP high (R143). -/
structure PulseTimes where
  fall : Nat
  rise : Nat
  deriving DecidableEq, Repr

/-- The two events of a pulse at these times. -/
def PulseTimes.events (p : PulseTimes) : List PinEvent := [⟨p.fall, .step, .drive false⟩, ⟨p.rise, .step, .drive true⟩]

/-- The times of one paced pulse: its release sample and its events (R145). -/
structure PacedTimes extends PulseTimes where
  release : Nat
  deriving DecidableEq, Repr

/-- The two events of a paced pulse at its times. -/
def PacedTimes.events (p : PacedTimes) : List PinEvent := p.toPulseTimes.events

/-- R145's bounds on the pulses of one STEP, from the clock and the last release before the first of them. -/
def PacedFrom (interval width clock last : Nat) : List PacedTimes → Prop
  | [] => True
  | p :: ps =>
    clock ≤ p.release ∧ last + interval ≤ p.release ∧ p.release ≤ p.fall ∧ p.fall + width ≤ p.rise
      ∧ PacedFrom interval width p.rise p.release ps

/-- R162's bounds on the pulses of one STEP_FIXED, from the clock before the first of them to the command's end. -/
def CadenceFrom (wait width finish clock : Nat) : List PulseTimes → Prop
  | [] => clock ≤ finish
  | p :: ps => clock ≤ p.fall ∧ p.fall + width ≤ p.rise ∧ CadenceFrom wait width finish (p.rise + wait) ps

/-- How many moves one primitive takes when no poll fails: a delay takes one to begin and one to pass. -/
def Prim.moves : Prim → Nat
  | .delay _ => 2
  | .pinWrite _ _ | .cfgOutLow | .cfgInPullup | .waitPace | .advance | .stamp | .whileMore _ | .again _ | .loadCode _
  | .setMode _ | .setEnabled _ | .setInterval _ | .result _ | .resultEnabled | .resultFault | .raise _ => 1

/-- The moves of a straight run of primitives. -/
def scriptMoves (ps : List Prim) : Nat := (ps.map Prim.moves).sum

/-- An upper bound on the moves that are not failed polls from here to IDLE: ten for each pulse left, one for each
primitive from the point on (and one more for a delay not begun), and the moves that decode and end the command. -/
def State.movesLeft (s : State) : Nat :=
  match s.phase with
  | .idle => 0
  | .start w a0 a1 =>
    match decode w a0 a1 with
    | .error _ => 1
    | .ok c => 2 + 10 * (initialLocals c).n + scriptMoves (script s.params c)
  | .run c point l =>
    1 + 10 * l.n + scriptMoves ((script s.params c).drop point) - (if l.since.isSome then 1 else 0)

/-- A move that is a failed poll (R15, R145): the wait's bound has not been reached, and only the clock has moved. -/
def State.failedPoll (s t : State) : Prop := ∃ b, s.waitBound? = some b ∧ t.clock < b ∧ t = sampleClock s

/-- R229's hang: the block waits for a clock value that its faulty clock never reaches. -/
def State.hung (s : State) : Prop := ∃ b stop, s.waitBound? = some b ∧ s.clockStop = some stop ∧ stop < b

end Sys2Proof.Machine
end

