-- ==== Sys2Proof/Certificates/Slice0/Obligations.lean ====
section
/-! DEFINITION. The statements for the provers, each as `Obligations.<Name>`. The docstring names the rules of spec/. -/

open Sys2Proof
open Sys2Proof.Machine

/-- Decoding the words of any well-formed command gives that command back (30_encoding.md R90, R93, R95, R96, R97,
R103). -/
def Obligations.DecodeOfEncode : Prop :=
  ∀ i : Instr, i.wellFormed = true → decode (encode i).1 (encode i).2.1 (encode i).2.2 = .ok i

/-- A word that decodes is the CMD word of the command it decodes to, with that command's operands in ARG0 and ARG1
(30_encoding.md R90, R93, R97, R103). -/
def Obligations.DecodedCommandHasItsOwnWord : Prop :=
  ∀ (w a0 a1 : Word) (i : Instr), decode w a0 a1 = .ok i →
    i.wellFormed = true ∧ i.cmdWord = w ∧ (∀ v, i.arg0? = some v → v = a0) ∧ (∀ v, i.arg1? = some v → v = a1)

/-- Words written out from R103's table decode to the commands it gives them (30_encoding.md R93, R95, R96, R103). -/
def Obligations.WrittenOutWordsDecode : Prop :=
  decode 0x00000001#32 0x3C#32 500#32 = .ok (.setSpeed 0x3C#32)
    ∧ decode 0x00000402#32 0x3C#32 500#32 = .ok (.msps .m16)
    ∧ decode 0x00000010#32 0x3C#32 500#32 = .ok (.step 0x3C#32)
    ∧ decode 0x00000011#32 0x3C#32 500#32 = .ok (.stepFixed 0x3C#32 500#32)
    ∧ decode 0x00000020#32 0x3C#32 500#32 = .ok (.setMode .full)
    ∧ decode 0x00000820#32 0x3C#32 500#32 = .ok (.setMode .m256)
    ∧ decode 0x00000030#32 0x3C#32 500#32 = .ok (.enable false)
    ∧ decode 0x00001030#32 0x3C#32 500#32 = .ok (.enable true)
    ∧ decode 0x00000031#32 0x3C#32 500#32 = .ok .isEnabled
    ∧ decode 0x00000032#32 0x3C#32 500#32 = .ok .isFault
    ∧ decode 0x00000033#32 0x3C#32 500#32 = .ok .clearFault
    ∧ decode 0x00000034#32 0x3C#32 500#32 = .ok (.standby false)
    ∧ decode 0x00001034#32 0x3C#32 500#32 = .ok (.standby true)
    ∧ decode 0x00000035#32 0x3C#32 500#32 = .ok .reset

/-- A word spells a command exactly when it matches that command's row of R94 and the value checks of R92 pass (R94). -/
def Obligations.MatchAndMaskTableIsTheDecoder : Prop :=
  ∀ (w a0 a1 : Word) (r : MatchRow), r ∈ matchTable →
    ((∃ i, decode w a0 a1 = .ok i ∧ i.opcode = r.opcode) ↔
      (w &&& r.mask = r.pattern
        ∧ (r.opcode = .msps ∨ r.opcode = .setMode → (w.extractLsb' 8 4).toNat ≤ 8)
        ∧ (r.opcode = .step ∨ r.opcode = .stepFixed → a0 ≠ 0x80000000#32)))

/-- A latched word spells a command exactly when R92's six checks pass; any other ends in Err(ILLEGAL) with no other
effect (30_encoding.md R92, R98, notes/assumptions/1.md). It rests on the model's choice of log entry 1. -/
def Obligations.IllegalWordsRaiseIllegalAndOthersRun : Prop :=
  ∀ (s : State) (w a0 a1 : Word), (s.host = [] ∨ ∃ rest, s.host = .poll :: rest) → s.phase = .start w a0 a1 →
    (SpellsNoCommand w a0 → step s = .next { s with result := 0#32, err := .illegal, phase := .idle })
      ∧ (¬SpellsNoCommand w a0 → ∃ i, decode w a0 a1 = .ok i ∧ (s.clockStop = none → step s = exec i s))

/-- After reset every state element holds the value of R49's table (R49). The form in which the model holds it is its
own choice (log entry 3). -/
def Obligations.ResetHoldsTheTableValues : Prop :=
  State.reset.microstepMode = .m16 ∧ State.reset.arg0 = 0#32 ∧ State.reset.arg1 = 0#32 ∧ State.reset.result = 0#32
    ∧ State.reset.status = 0#32 ∧ State.reset.phase = .idle ∧ State.reset.faults = []
    ∧ State.reset.pulseInterval.toNat = Config.initPulseInterval ∧ 1 ≤ Config.initPulseInterval
    ∧ State.reset.position.toNat = Config.initPosition ∧ Config.initPosition < State.reset.params.spr
    ∧ State.reset.lastPulseTime = Config.initLastPulseTime ∧ State.reset.clock = Config.clockAtReset
    ∧ Config.initLastPulseTime ≤ Config.clockAtReset
    ∧ State.reset.enabled = Config.initEnabled ∧ (∀ o : OutPin, State.reset.pins.level o = Config.initLevel o)
    ∧ State.reset.pins.en = (if Config.initEnIsInput then .inPullup else .outLow)

/-- The state after reset meets the machine's invariant (10_state.md R48, R49, notes/assumptions/3.md). It rests on the
model's choice of log entries 3, 5, 7 and 20. -/
def Obligations.ResetMeetsTheInvariant : Prop :=
  State.reset.Inv

/-- A block is built from parameters in range, with R49's values, and refused where SPR is 0 (70_reset_and_hazards.md
R260, 10_state.md R49). It rests on the model's choice of log entries 4 and 20. -/
def Obligations.ConstructionRefusesZeroSpr : Prop :=
  (∀ (p : Params) (i : Init) (env : Nat), p.spr = 0 → State.construct p i env = .refused .construction)
    ∧ ∀ (p : Params) (i : Init) (env : Nat), p.valid = true → i.valid p = true →
      ∃ s, State.construct p i env = .next s ∧ s.params = p ∧ s.phase = .idle ∧ s.status = 0#32 ∧ s.microstepMode = .m16
        ∧ s.pulseInterval.toNat = i.pulseInterval ∧ s.position.toNat = i.position ∧ s.lastPulseTime = i.lastPulseTime
        ∧ s.enabled = i.enabled ∧ s.pins = i.pins ∧ s.arg0 = 0#32 ∧ s.arg1 = 0#32 ∧ s.result = 0#32
        ∧ s.faults = []

/-- Every step keeps the invariant: R48's ranges, the order of the trace, and what the phase holds (10_state.md R48,
R32, R33, R34, R44, 20_memory.md R80). It rests on the model's choice of log entries 4, 7 and 20. -/
def Obligations.StepKeepsTheInvariant : Prop :=
  ∀ s t : State, s.Inv → step s = .next t → t.Inv

/-- No step ends in a fault or a refusal: every state has a next state (60_exceptions.md R222, R227, R228,
30_encoding.md R92). It rests on the model's choice of log entries 1 and 6. -/
def Obligations.EveryStepAnswersANextState : Prop :=
  ∀ s : State, ∃ t, step s = .next t

/-- A step at a latched word that decodes to i is exec of i; at any other point it is the host's turn or one move of the
block (30_encoding.md R91, R102, 41_stepping_engine.md R147, 60_exceptions.md R229, R237, R242,
notes/assumptions/1.md, notes/assumptions/8.md). It rests on the model's choice of log entries 1, 7, 8, 20 and 21. -/
def Obligations.StepRunsTheDecodedCommand : Prop :=
  (∀ (s : State) (w a0 a1 : Word) (i : Instr), s.phase = .start w a0 a1 → decode w a0 a1 = .ok i →
      (s.host = [] ∨ ∃ rest, s.host = .poll :: rest) →
      (s.clockStop = none → step s = exec i s) ∧ (s.clockStop ≠ none → step s = .next (blockMove s)))
    ∧ (∀ (s : State) (c : Instr) (point : Nat) (l : Locals), s.phase = .run c point l →
      (s.host = [] ∨ ∃ rest, s.host = .poll :: rest) → step s = .next (blockMove s))
    ∧ (∀ s : State, s.phase = .idle →
      (s.host = [] → step s = .next (sampleClock s))
        ∧ ∀ rest, s.host = .poll :: rest →
          step s = .next { s with host := rest, readData := s.status, observed := true })
    ∧ (∀ (s : State) (a : Access) (rest : List HostTurn), s.host = .access a :: rest →
      step s = .next (hostAccess a { s with host := rest }))
    ∧ (∀ (s : State) (rest : List HostTurn), s.host = .yield :: rest →
      step s = .next (blockMove { s with host := rest }))
    ∧ (∀ (s : State) (w : Word) (rest : List HostTurn), s.phase = .idle →
      s.host = .access (.write 0x00 4 w) :: rest →
      step s = .next { s with host := rest, phase := .start w s.arg0 s.arg1, observed := false })
    ∧ ∀ (s : State) (nbits w : Nat) (i : Instr), s.clockStop = none → decodeTableWord nbits w = some i →
      step (s.withFetchWord nbits w) = exec i (s.withFetchWord nbits w)

/-- The host accesses of R102 for a command run it with its operands, and end with STATUS read as not busy
(30_encoding.md R102, R100, 20_memory.md R80, 60_exceptions.md R237, R244, notes/assumptions/1.md). It rests on the
model's choice of log entries 1, 7, 20 and 21. -/
def Obligations.HostExpansionRunsTheCommand : Prop :=
  ∀ (s t : State) (i : Instr) (rest : List HostTurn), i.wellFormed = true → s.phase = .idle → s.clockStop = none →
    s.host = hostExpansion i ++ rest →
    exec i { s with
        arg0 := i.arg0?.getD s.arg0
        arg1 := i.arg1?.getD s.arg1
        phase := .start i.cmdWord (i.arg0?.getD s.arg0) (i.arg1?.getD s.arg1)
        host := .poll :: rest
        observed := false } = .next t →
    Host.Core.run Sys2Proof.core ((hostExpansion i).length + 1) s
      = .next { t with host := rest, readData := t.status, observed := true }

/-- No step changes the parameters, the environment the block is connected to, or whether its clock is faulty
(10_state.md R30, 60_exceptions.md R237, R239, notes/assumptions/4.md, notes/assumptions/20.md). It rests on the
model's choice of log entries 3, 4 and 20. -/
def Obligations.ParametersNeverChange : Prop :=
  ∀ s t : State, step s = .next t → t.params = s.params ∧ t.env = s.env ∧ t.clockStop = s.clockStop

/-- A recorded fault and the refusal mark stay for the whole run, which is then never final, and come only from host
accesses (60_exceptions.md R227, R228, R244, 20_memory.md R73, R77). It rests on the model's choice of log entries 6
and 7. -/
def Obligations.FaultsAndRefusalsAreNeverCleared : Prop :=
  (∀ s t : State, step s = .next t →
      (∀ f ∈ s.faults, f ∈ t.faults) ∧ (s.refusalMark = true → t.refusalMark = true)
        ∧ (t.faults ≠ s.faults → s.busy = true ∧
          ∃ (o : Nat) (v : Word) (rest : List HostTurn), o ∈ [0x00, 0x04, 0x08] ∧
            s.host = .access (.write o 4 v) :: rest)
        ∧ (t.refusalMark ≠ s.refusalMark → ∃ (a : Access) (rest : List HostTurn), s.host = .access a :: rest))
    ∧ ∀ (s t : State) (k : Nat), s.faults ≠ [] ∨ s.refusalMark = true →
      Host.Core.run Sys2Proof.core k s = .next t → t.final = false

/-- A run has ended when BUSY = 0 has been read after the last CMD write, with IDLE, no fault and no mark
(60_exceptions.md R244, notes/assumptions/21.md). It rests on the model's choice of log entries 7 and 21. -/
def Obligations.RunEndsOnlyOnceItsCompletionIsRead : Prop :=
  (∀ s : State, s.final = true ↔
      s.host = [] ∧ s.observed = true ∧ s.phase = .idle ∧ s.faults = [] ∧ s.refusalMark = false)
    ∧ (∀ s t : State, step s = .next t → s.observed = true → t.observed = false →
      s.phase = .idle ∧ ∃ w rest, s.host = .access (.write 0x00 4 w) :: rest)
    ∧ (∀ s t : State, step s = .next t → s.observed = false → t.observed = true →
      s.phase = .idle ∧ t.readData = s.status
        ∧ ∃ rest, s.host = .poll :: rest ∨ s.host = .access (.read 0x10 4) :: rest)
    ∧ ∀ (s : State) (w : Word) (rest : List HostTurn), s.phase = .idle →
      (s.host = .access (.write 0x00 4 w) :: rest → ∃ t, step s = .next t ∧ t.observed = false ∧ t.final = false)
        ∧ (s.host = .poll :: rest ∨ s.host = .access (.read 0x10 4) :: rest →
          ∃ t, step s = .next t ∧ t.observed = true ∧ t.readData = s.status)

/-- Issued by R102's accesses while the clock goes on, every finite list of commands reaches the end of its run
(60_exceptions.md R237, R243, R244, 30_encoding.md R102, notes/assumptions/1.md). It rests on the model's choice of
log entries 1, 7, 20 and 21. -/
def Obligations.EveryProgramRunsToItsEnd : Prop :=
  ∀ (s : State) (commands : List Instr), (∀ i ∈ commands, i.wellFormed = true) → s.phase = .idle →
    s.clockStop = none → s.observed = true → s.faults = [] → s.refusalMark = false →
    s.host = commands.flatMap hostExpansion →
    ∃ k t, Host.Core.run Sys2Proof.core k s = .next t ∧ t.final = true ∧ t.params = s.params

/-- ARG0 and ARG1 change only by a host write to them while IDLE, to the value written (10_state.md R38, R39,
20_memory.md R75). It rests on the model's choice of log entry 7. -/
def Obligations.OnlyTheHostWritesTheArgRegisters : Prop :=
  ∀ s t : State, step s = .next t →
    (t.arg0 ≠ s.arg0 → s.phase = .idle ∧ ∃ rest, s.host = .access (.write 0x04 4 t.arg0) :: rest)
      ∧ (t.arg1 ≠ s.arg1 → s.phase = .idle ∧ ∃ rest, s.host = .access (.write 0x08 4 t.arg1) :: rest)

/-- A step never takes an event back, and the events it adds lie between the two clocks in order (20_memory.md R80,
00_scope.md R14, R15). It rests on the model's choice of log entries 2 and 7. -/
def Obligations.EveryStepOnlyAppendsToTheTraceInTimeOrder : Prop :=
  ∀ s t : State, step s = .next t → ∃ shape, Emits s t shape

/-- MSPS k sets RESULT to 2^k and changes no device state, pin or clock (R121, R120). -/
def Obligations.MspsReturnsTheDivisor : Prop :=
  (∀ (m : MicrostepMode) (s : State),
      exec (.msps m) s
        = .next { s with
            result :=
              match m with
              | .full => 1#32
              | .m2 => 2#32
              | .m4 => 4#32
              | .m8 => 8#32
              | .m16 => 16#32
              | .m32 => 32#32
              | .m64 => 64#32
              | .m128 => 128#32
              | .m256 => 256#32
            err := .none
            phase := .idle })
    ∧ OpcodeSpells 0x02#8 fun w _ _ i => ∃ m : MicrostepMode, w = 0x00000002#32 ||| (m.code.setWidth 32 <<< 8) ∧ i = .msps m

/-- SET_SPEED sets pulse_interval by R122's formula, exactly and without wrapping, and changes nothing else (R122,
R123). -/
def Obligations.SetSpeedComputesTheInterval : Prop :=
  (∀ (rpm : Word) (s : State), ∃ t, exec (.setSpeed rpm) s = .next t
      ∧ t = { s with pulseInterval := t.pulseInterval, result := 0#32, err := .none, phase := .idle }
      ∧ (rpm.toInt ≤ 0 → t.pulseInterval.toNat = 1000000)
      ∧ (0 < rpm.toInt →
        t.pulseInterval.toNat = max 1 (60000000 / (s.params.spr * 2 ^ s.microstepMode.code.toNat * rpm.toNat))))
    ∧ OpcodeSpells 0x01#8 fun w a0 _ i =>
      w = 0x00000001#32 ∧ i = .setSpeed a0

/-- After SET_SPEED pulse_interval is in [1, 60 000 000], and 1 000 000 where rpm <= 0 (R124). -/
def Obligations.SetSpeedIntervalIsInRange : Prop :=
  (∀ (rpm : Word) (s : State), ∃ t, exec (.setSpeed rpm) s = .next t
      ∧ 1 ≤ t.pulseInterval.toNat ∧ t.pulseInterval.toNat ≤ 60000000
      ∧ (rpm.toInt ≤ 0 → t.pulseInterval.toNat = 1000000))
    ∧ ∀ (s t : State), s.params.spr = 60 → s.microstepMode = .full → exec (.setSpeed 1#32) s = .next t →
      t.pulseInterval.toNat = 1000000

/-- STEP c emits exactly |c| pulses, drives DIR once, and moves position by c modulo SPR (R144). -/
def Obligations.StepMovesThePosition : Prop :=
  ∀ (c : Word) (s : State), c ≠ 0x80000000#32 → s.params.valid = true → s.position.toNat < s.params.spr →
    ∃ t, exec (.step c) s = .next t
      ∧ (t.position.toNat : Int) = ((s.position.toNat : Int) + c.toInt) % (s.params.spr : Int)
      ∧ Emits s t (dirShape s.params (decide (0 < c.toInt)) ++ pulsesShape s.params c.toInt.natAbs)
      ∧ t.result = 0#32 ∧ t.err = .none ∧ t.phase = .idle
      ∧ (c.toInt = 0 → t.lastPulseTime = s.lastPulseTime)
      ∧ ∀ n, c.toInt.natAbs = n + 1 →
        t.lastPulseTime
          = (waitPace (pacedPulses (decide (0 < c.toInt)) n (pinWrite .dir (decide (0 < c.toInt)) s))).clock

/-- STEP's frame: it writes position, last_pulse_time, DIR, STEP, RESULT and STATUS, and nothing else
(41_stepping_engine.md R141, 10_state.md R50). It rests on the model's choice of log entry 17. -/
def Obligations.StepLeavesTheRestUnchanged : Prop :=
  ∀ (c : Word) (s t : State), exec (.step c) s = .next t →
    t = { s with
        position := t.position
        lastPulseTime := t.lastPulseTime
        pins :=
          if c = 0x80000000#32 then s.pins
          else
            { s.pins with
              dir := if s.params.present.dir then decide (0 < c.toInt) else s.pins.dir
              step := if s.params.present.step = true ∧ c ≠ 0#32 then true else s.pins.step }
        trace := t.trace
        clock := t.clock
        lull := t.lull
        draws := t.draws
        result := 0#32
        err := if c = 0x80000000#32 then .illegal else .none
        phase := .idle }

/-- Advance moves position by one and wraps from SPR - 1 to 0 and from 0 to SPR - 1 (R142). -/
def Obligations.AdvanceWrapsAtBothEnds : Prop :=
  (∀ s : State, s.params.valid = true → s.position.toNat < s.params.spr →
      (advance true s).position.toNat
          = (if s.position.toNat = s.params.spr - 1 then 0 else s.position.toNat + 1)
        ∧ (advance false s).position.toNat
          = (if s.position.toNat = 0 then s.params.spr - 1 else s.position.toNat - 1))
    ∧ (∀ (fwd : Bool) (s : State), (pacedPulse fwd s).position = (advance fwd s).position
      ∧ (pacedPulse fwd s).lastPulseTime = (waitPace s).clock)
    ∧ ∀ (i : Instr) (s t : State), (∀ c, i ≠ .step c) → exec i s = .next t → t.position = s.position

/-- STEP's release samples and pulse times keep R145's lower bounds, and its pulses are exactly those events
(41_stepping_engine.md R145, R143). -/
def Obligations.StepPulsesArePaced : Prop :=
  (∀ (c : Word) (s : State), c ≠ 0x80000000#32 → s.params.present.step = true →
      ∃ (t : State) (dirs : List PinEvent) (pulses : List PacedTimes), exec (.step c) s = .next t
        ∧ t.trace = s.trace ++ dirs ++ pulses.flatMap PacedTimes.events
        ∧ dirs.map PinEvent.shape = dirShape s.params (decide (0 < c.toInt)) ∧ pulses.length = c.toInt.natAbs
        ∧ PacedFrom s.pulseInterval.toNat s.params.pulseWidthUs s.clock s.lastPulseTime pulses
        ∧ t.lastPulseTime = (pulses.getLast?.map PacedTimes.release).getD s.lastPulseTime
        ∧ ∀ p ∈ pulses, p.rise ≤ t.clock)
    ∧ ∀ (fwd : Bool) (s : State),
      s.clock ≤ (pacedPulse fwd s).lastPulseTime
        ∧ s.lastPulseTime + s.pulseInterval.toNat ≤ (pacedPulse fwd s).lastPulseTime
        ∧ (pacedPulse fwd s).lastPulseTime + s.params.pulseWidthUs ≤ (pacedPulse fwd s).clock
        ∧ (pacedPulse fwd s).pulseInterval = s.pulseInterval

/-- STEP and STEP_FIXED run their full rules whatever STBY's level is (70_reset_and_hazards.md R272,
notes/assumptions/4.md). It rests on the model's choice of log entry 4. -/
def Obligations.StepIgnoresStandby : Prop :=
  ∀ (c w : Word) (s t : State) (v : Bool),
    (exec (.step c) s = .next t →
        exec (.step c) { s with pins := { s.pins with stby := v } }
          = .next { t with pins := { t.pins with stby := v } })
      ∧ (exec (.stepFixed c w) s = .next t →
        exec (.stepFixed c w) { s with pins := { s.pins with stby := v } }
          = .next { t with pins := { t.pins with stby := v } })

/-- STEP_FIXED emits |c| pulses and changes no position, last_pulse_time, pulse_interval, mode or enable flag
(42_blocking_step.md R160, notes/assumptions/17.md). It rests on the model's choice of log entry 17. -/
def Obligations.StepFixedEmitsWithoutTracking : Prop :=
  (∀ (c w : Word) (s : State), c ≠ 0x80000000#32 →
      ∃ t, exec (.stepFixed c w) s = .next t
        ∧ t = { s with
            pins :=
              { s.pins with
                dir := if s.params.present.dir then decide (0 < c.toInt) else s.pins.dir
                step := if s.params.present.step = true ∧ c ≠ 0#32 then true else s.pins.step }
            trace := t.trace
            clock := t.clock
            lull := t.lull
            draws := t.draws
            result := 0#32
            err := .none
            phase := .idle }
        ∧ Emits s t (dirShape s.params (decide (0 < c.toInt)) ++ pulsesShape s.params c.toInt.natAbs)
        ∧ s.clock + c.toInt.natAbs * (s.params.pulseWidthUs + w.toNat * s.params.fixedUnit.us) ≤ t.clock)
    ∧ (∀ (w : Word) (s : State),
      exec (.stepFixed 0x80000000#32 w) s = .next { s with result := 0#32, err := .illegal, phase := .idle })
    ∧ OpcodeSpells 0x11#8 fun w a0 a1 i =>
      w = 0x00000011#32 ∧ a0 ≠ 0x80000000#32 ∧ i = .stepFixed a0 a1

/-- Each pulse of STEP_FIXED is low for PULSE_WIDTH_US and followed by the interval, which alone sets its cadence
(42_blocking_step.md R162, notes/assumptions/4.md). It rests on the model's choice of log entry 4. -/
def Obligations.StepFixedPulsesKeepTheirCadence : Prop :=
  (∀ (c w : Word) (s : State), c ≠ 0x80000000#32 → s.params.present.step = true →
      ∃ (t : State) (dirs : List PinEvent) (pulses : List PulseTimes), exec (.stepFixed c w) s = .next t
        ∧ t.trace = s.trace ++ dirs ++ pulses.flatMap PulseTimes.events
        ∧ dirs.map PinEvent.shape = dirShape s.params (decide (0 < c.toInt)) ∧ pulses.length = c.toInt.natAbs
        ∧ CadenceFrom (w.toNat * s.params.fixedUnit.us) s.params.pulseWidthUs t.clock s.clock pulses)
    ∧ ∀ (c w pulseInterval position : Word) (mode : MicrostepMode) (lastPulseTime spr : Nat) (s t : State),
      exec (.stepFixed c w) s = .next t →
      exec (.stepFixed c w)
          { s with
            pulseInterval := pulseInterval
            position := position
            microstepMode := mode
            lastPulseTime := lastPulseTime
            params := { s.params with spr := spr } }
        = .next
          { t with
            pulseInterval := pulseInterval
            position := position
            microstepMode := mode
            lastPulseTime := lastPulseTime
            params := { t.params with spr := spr } }

/-- SET_MODE with STBY present runs the latch sequence, stores the mode and returns 1; without STBY it is CAP_MISSING
(R178). -/
def Obligations.SetModeLatchesAndStoresTheMode : Prop :=
  (∀ (m : MicrostepMode) (s : State), s.params.present.stby = true →
      ∃ (t : State) (low : PinEvent) (rest : List PinEvent), exec (.setMode m) s = .next t
        ∧ t = { s with
            microstepMode := m
            pins :=
              { s.pins with
                ms1 := if s.params.present.ms1 then (s.params.latch.code m).getLsbD 0 else s.pins.ms1
                ms2 := if s.params.present.ms2 then (s.params.latch.code m).getLsbD 1 else s.pins.ms2
                step := if s.params.present.step then (s.params.latch.code m).getLsbD 2 else s.pins.step
                dir := if s.params.present.dir then (s.params.latch.code m).getLsbD 3 else s.pins.dir
                stby := true }
            trace := s.trace ++ low :: rest
            clock := t.clock
            lull := t.lull
            draws := t.draws
            result := 1#32
            err := .none
            phase := .idle }
        ∧ (low :: rest).map PinEvent.shape = latchShape s.params (s.params.latch.code m)
        ∧ s.clock ≤ low.time ∧ (rest.Pairwise fun e f => e.time ≤ f.time)
        ∧ ∀ e ∈ rest, low.time + 1000 ≤ e.time ∧ e.time ≤ t.clock)
    ∧ (∀ (m : MicrostepMode) (s : State), s.params.present.stby = false →
      exec (.setMode m) s = .next { s with result := 0#32, err := .capMissing, phase := .idle })
    ∧ OpcodeSpells 0x20#8 fun w _ _ i =>
      ∃ m : MicrostepMode, w = 0x00000020#32 ||| (m.code.setWidth 32 <<< 8) ∧ i = .setMode m

/-- ENABLE b with EN present sets enabled to b and reconfigures EN in one event; with EN absent it is a no-op (R190). -/
def Obligations.EnableSetsTheFlagAndTheEnPin : Prop :=
  (∀ (b : Bool) (s : State), s.params.present.en = true →
      ∃ time lull d, s.clock ≤ time ∧
        exec (.enable b) s
          = .next { s with
              enabled := b
              pins := { s.pins with en := if b then .inPullup else .outLow }
              trace := s.trace ++ [⟨time, .en, if b then .cfgInPullup else .cfgOutLow⟩]
              clock := time
              lull := lull
              draws := d
              result := 0#32
              err := .none
              phase := .idle })
    ∧ (∀ (b : Bool) (s : State), s.params.present.en = false →
      exec (.enable b) s = .next { s with result := 0#32, err := .none, phase := .idle })
    ∧ OpcodeSpells 0x30#8 fun w _ _ i =>
      ∃ b, w = (if b then 0x00001030#32 else 0x00000030#32) ∧ i = .enable b

/-- IS_ENABLED returns 1 where EN is absent, else the enabled flag, and touches no pin (R193). -/
def Obligations.IsEnabledReportsTheLastCommandedState : Prop :=
  (∀ s : State,
      exec .isEnabled s
        = .next { s with
            result := if s.params.present.en = false ∨ s.enabled = true then 1#32 else 0#32
            err := .none
            phase := .idle })
    ∧ OpcodeSpells 0x31#8 fun w _ _ i =>
      w = 0x00000031#32 ∧ i = .isEnabled

/-- IS_FAULT returns 0 where EN is absent, else 1 exactly when its sample of EN is low; it changes nothing else (R194).
The form in which the model holds it is its own choice (log entry 4). -/
def Obligations.IsFaultSamplesTheEnLine : Prop :=
  (∀ s : State, s.params.present.en = false →
      exec .isFault s = .next { s with result := 0#32, err := .none, phase := .idle })
    ∧ (∀ s : State, s.params.present.en = true →
      ∃ v : Bool,
        (s.pins.en = .inPullup → v = Config.enLineLevel s.env s.draws)
          ∧ (s.pins.en = .outLow → v = Config.enReadback s.env s.draws)
          ∧ exec .isFault s
            = .next { s with
                draws := s.draws + 1
                result := if v = false then 1#32 else 0#32
                err := .none
                phase := .idle })
    ∧ OpcodeSpells 0x32#8 fun w _ _ i =>
      w = 0x00000032#32 ∧ i = .isFault

/-- CLEAR_FAULT with EN present drives EN low, releases it at least CLEAR_FAULT_LOW_US later and sets enabled (R195). -/
def Obligations.ClearFaultPulsesEnLowAndReenables : Prop :=
  (∀ s : State, s.params.present.en = true →
      ∃ f r lull d, s.clock ≤ f ∧ f + s.params.clearFaultLowUs ≤ r ∧
        exec .clearFault s
          = .next { s with
              enabled := true
              pins := { s.pins with en := .inPullup }
              trace := s.trace ++ [⟨f, .en, .cfgOutLow⟩, ⟨r, .en, .cfgInPullup⟩]
              clock := r
              lull := lull
              draws := d
              result := 0#32
              err := .none
              phase := .idle })
    ∧ (∀ s : State, s.params.present.en = false →
      exec .clearFault s = .next { s with result := 0#32, err := .none, phase := .idle })
    ∧ OpcodeSpells 0x33#8 fun w _ _ i =>
      w = 0x00000033#32 ∧ i = .clearFault

/-- STANDBY 1 drives STBY low; STANDBY 0 re-latches the stored mode; without STBY both are no-ops and no error (R196). -/
def Obligations.StandbyEntersAndLeaves : Prop :=
  (∀ s : State, s.params.present.stby = true →
      ∃ time lull d, s.clock ≤ time ∧
        exec (.standby true) s
          = .next { s with
              pins := { s.pins with stby := false }
              trace := s.trace ++ [⟨time, .stby, .drive false⟩]
              clock := time
              lull := lull
              draws := d
              result := 0#32
              err := .none
              phase := .idle })
    ∧ (∀ s : State, s.params.present.stby = true →
      ∃ (t : State) (low : PinEvent) (rest : List PinEvent), exec (.standby false) s = .next t
        ∧ t = { s with
            pins := latchedPins s.params.present (s.params.latch.code s.microstepMode) s.pins
            trace := s.trace ++ low :: rest
            clock := t.clock
            lull := t.lull
            draws := t.draws
            result := 0#32
            err := .none
            phase := .idle }
        ∧ (low :: rest).map PinEvent.shape = latchShape s.params (s.params.latch.code s.microstepMode)
        ∧ s.clock ≤ low.time ∧ ∀ e ∈ rest, low.time + 1000 ≤ e.time ∧ e.time ≤ t.clock)
    ∧ (∀ (b : Bool) (s : State), s.params.present.stby = false →
      exec (.standby b) s = .next { s with result := 0#32, err := .none, phase := .idle })
    ∧ OpcodeSpells 0x34#8 fun w _ _ i =>
      ∃ b, w = (if b then 0x00001034#32 else 0x00000034#32) ∧ i = .standby b

/-- RESET drives STBY low twice, 1000 us apart, re-latches the stored mode, and changes no device-state field (R197). -/
def Obligations.ResetCommandRelatchesTheStoredMode : Prop :=
  (∀ s : State, s.params.present.stby = true →
      ∃ (t : State) (low1 low2 : PinEvent) (rest : List PinEvent), exec .reset s = .next t
        ∧ t = { s with
            pins := latchedPins s.params.present (s.params.latch.code s.microstepMode) s.pins
            trace := s.trace ++ low1 :: low2 :: rest
            clock := t.clock
            lull := t.lull
            draws := t.draws
            result := 0#32
            err := .none
            phase := .idle }
        ∧ low1.shape = (.stby, .drive false)
        ∧ (low2 :: rest).map PinEvent.shape = latchShape s.params (s.params.latch.code s.microstepMode)
        ∧ s.clock ≤ low1.time ∧ low1.time + 1000 ≤ low2.time
        ∧ ∀ e ∈ rest, low2.time + 1000 ≤ e.time ∧ e.time ≤ t.clock)
    ∧ (∀ s : State, s.params.present.stby = false →
      ∃ t, exec .reset s = .next t
        ∧ t = { s with
            clock := t.clock
            lull := t.lull
            draws := t.draws
            result := 0#32
            err := .none
            phase := .idle }
        ∧ s.clock + 1000 ≤ t.clock)
    ∧ OpcodeSpells 0x35#8 fun w _ _ i =>
      w = 0x00000035#32 ∧ i = .reset

/-- A second STANDBY 0 leaves every field as the first left it, and repeats the same events (R198). -/
def Obligations.StandbyZeroIsIdempotent : Prop :=
  ∀ s : State, ∃ t u, exec (.standby false) s = .next t ∧ exec (.standby false) t = .next u
    ∧ u = { t with trace := u.trace, clock := u.clock, lull := u.lull, draws := u.draws }
    ∧ ∀ shape, shape
        = (if s.params.present.stby then latchShape s.params (s.params.latch.code s.microstepMode) else []) →
      Emits s t shape ∧ Emits t u shape

/-- IS_ENABLED after ENABLE or CLEAR_FAULT reports what was commanded, and always 1 where EN is absent; then IS_FAULT is
0 (44_power_fault.md R190, R193, R195, R46, 95_test_vectors.md L1-8, L1-7). -/
def Obligations.EnableStateIsReportedBack : Prop :=
  (∀ (b : Bool) (s : State), ∃ t u, exec (.enable b) s = .next t ∧ exec .isEnabled t = .next u
      ∧ u.result = if s.params.present.en = true ∧ b = false then 0#32 else 1#32)
    ∧ (∀ s : State, ∃ t u, exec .clearFault s = .next t ∧ exec .isEnabled t = .next u ∧ u.result = 1#32)
    ∧ ∀ (i : Instr) (s t : State), s.params.present.en = false → exec i s = .next t →
      ∃ u, exec .isFault t = .next u ∧ u.result = 0#32

/-- STANDBY 1 puts STEP and DIR in the PROGRAMMING role; STANDBY 0, RESET and SET_MODE put them back; STEP does neither
(10_state.md R45, 44_power_fault.md R196, R197, 60_exceptions.md R241). -/
def Obligations.StandbyIsLeftByTheLatchSequence : Prop :=
  (∀ s : State, s.params.present.stby = false → s.latchRole = .normal)
    ∧ ∀ (i : Instr) (s t : State), s.params.present.stby = true → exec i s = .next t →
      t.latchRole =
        match i with
        | .standby true => .programming
        | .standby false | .reset | .setMode _ => .normal
        | .setSpeed _ | .msps _ | .step _ | .stepFixed _ _ | .enable _ | .isEnabled | .isFault | .clearFault =>
          s.latchRole

/-- Every command writes only the state that R50's table gives it (10_state.md R50). -/
def Obligations.CommandsWriteOnlyTheirStateOfTheTable : Prop :=
  ∀ (i : Instr) (s t : State), exec i s = .next t →
    ((∀ rpm, i ≠ .setSpeed rpm) → t.pulseInterval = s.pulseInterval)
      ∧ ((∀ c, i ≠ .step c) → t.position = s.position ∧ t.lastPulseTime = s.lastPulseTime)
      ∧ ((∀ m, i ≠ .setMode m) → t.microstepMode = s.microstepMode)
      ∧ ((∀ b, i ≠ .enable b) → i ≠ .clearFault → t.enabled = s.enabled ∧ t.pins.en = s.pins.en)
      ∧ ((∀ m, i ≠ .setMode m) → (∀ b, i ≠ .standby b) → i ≠ .reset → t.pins.stby = s.pins.stby)
      ∧ ((∀ m, i ≠ .setMode m) → i ≠ .standby false → i ≠ .reset →
        t.pins.ms1 = s.pins.ms1 ∧ t.pins.ms2 = s.pins.ms2
          ∧ ((∀ c, i ≠ .step c) → (∀ c w, i ≠ .stepFixed c w) →
            t.pins.step = s.pins.step ∧ t.pins.dir = s.pins.dir
              ∧ (i ≠ .standby true → (∀ b, i ≠ .enable b) → i ≠ .clearFault → t.trace = s.trace)))
      ∧ t.arg0 = s.arg0 ∧ t.arg1 = s.arg1 ∧ t.params = s.params ∧ t.faults = s.faults
      ∧ t.refusalMark = s.refusalMark ∧ t.env = s.env ∧ t.clockStop = s.clockStop
      ∧ t.host = s.host ∧ t.readData = s.readData ∧ t.observed = s.observed ∧ t.phase = .idle

/-- A command that ends in an error has changed nothing but RESULT and STATUS, whether at decode or as it runs
(60_exceptions.md R222, 30_encoding.md R92, notes/assumptions/1.md). It rests on the model's choice of log entries 1
and 12. -/
def Obligations.ErrorsArePrecise : Prop :=
  (∀ (i : Instr) (s t : State), exec i s = .next t → t.err ≠ .none →
      t = { s with result := 0#32, err := t.err, phase := .idle })
    ∧ (∀ (s : State) (w a0 a1 : Word) (e : Illegal), s.phase = .start w a0 a1 → decode w a0 a1 = .error e →
      blockMove s = { s with result := 0#32, err := .illegal, phase := .idle }
        ∧ (s.host = [] ∨ (∃ rest, s.host = .poll :: rest) →
          step s = .next { s with result := 0#32, err := .illegal, phase := .idle })
        ∧ ∀ rest, s.host = .yield :: rest →
          step s = .next { s with host := rest, result := 0#32, err := .illegal, phase := .idle })
    ∧ ∀ s : State, s.err = .none → (blockMove s).err ≠ .none →
      blockMove s = { s with result := 0#32, err := (blockMove s).err, phase := .idle }

/-- A command ends ILLEGAL exactly when its count is -2^31 and CAP_MISSING exactly when it is SET_MODE without STBY
(60_exceptions.md R220, R221, R224). It rests on the model's choice of log entry 17. -/
def Obligations.ErrCodesHaveTheirOneCause : Prop :=
  ∀ (i : Instr) (s : State), ∃ t, exec i s = .next t
    ∧ (t.err = .illegal ↔ i.wellFormed = false)
    ∧ (t.err = .capMissing ↔ s.params.present.stby = false ∧ ∃ m, i = .setMode m)

/-- STATUS has BUSY in bit 0, ERR in bits 7:4 and 0 in every reserved bit (10_state.md R41, R44). -/
def Obligations.StatusShowsBusyAndErr : Prop :=
  ∀ s : State,
    (s.status.getLsbD 0 = true ↔ s.phase ≠ .idle) ∧ s.status.extractLsb' 1 3 = 0#3
      ∧ s.status.extractLsb' 4 4
        = (match s.err with
          | .none => 0#4
          | .illegal => 1#4
          | .capMissing => 2#4)
      ∧ s.status.extractLsb' 8 24 = 0#24

/-- The PRESENT view has one bit per pin, bit 0 STEP to bit 5 STBY, and reads 0 above (10_state.md R42). -/
def Obligations.PresentViewShowsThePins : Prop :=
  ∀ p : Present,
    (presentWord p).getLsbD 0 = p.step ∧ (presentWord p).getLsbD 1 = p.dir ∧ (presentWord p).getLsbD 2 = p.ms1
      ∧ (presentWord p).getLsbD 3 = p.ms2 ∧ (presentWord p).getLsbD 4 = p.en ∧ (presentWord p).getLsbD 5 = p.stby
      ∧ (presentWord p).extractLsb' 6 26 = 0#26

/-- While IDLE a 4-byte read of each mapped register returns it and changes nothing the host can read (20_memory.md R71,
R74, R75, 10_state.md R38, R39, R40, R41, R42, R43). It rests on the model's choice of log entries 4, 7 and 21. -/
def Obligations.IdleReadsReturnTheRegisters : Prop :=
  ∀ s : State, s.phase = .idle →
    hostRead 0x04 4 s = { s with readData := s.arg0 } ∧ hostRead 0x08 4 s = { s with readData := s.arg1 }
      ∧ hostRead 0x0C 4 s = { s with readData := s.result }
      ∧ hostRead 0x10 4 s = { s with readData := s.status, observed := true }
      ∧ hostRead 0x14 4 s = { s with readData := s.position }
      ∧ hostRead 0x18 4 s = { s with readData := s.pulseInterval }
      ∧ hostRead 0x1C 4 s = { s with readData := s.microstepMode.code.setWidth 32 }
      ∧ hostRead 0x20 4 s = { s with readData := BitVec.ofNat 32 s.params.spr }
      ∧ hostRead 0x24 4 s = { s with readData := presentWord s.params.present }
      ∧ ∃ v, hostRead 0x00 4 s = { s with readData := v, draws := s.draws + 1 }

/-- While BUSY a read returns the true STATUS with BUSY = 1, ARG0, ARG1, SPR and PRESENT, and a draw for the rest (R76).
The form in which the model holds it is its own choice (log entries 4 and 7). -/
def Obligations.BusyReadsReturnStatusArgsAndConstants : Prop :=
  ∀ s : State, s.phase ≠ .idle →
    hostRead 0x10 4 s = { s with readData := s.status } ∧ s.status.getLsbD 0 = true
      ∧ hostRead 0x04 4 s = { s with readData := s.arg0 } ∧ hostRead 0x08 4 s = { s with readData := s.arg1 }
      ∧ hostRead 0x20 4 s = { s with readData := BitVec.ofNat 32 s.params.spr }
      ∧ hostRead 0x24 4 s = { s with readData := presentWord s.params.present }
      ∧ ∀ o ∈ [0x0C, 0x14, 0x18, 0x1C],
        hostRead o 4 s = { s with readData := Config.busyRead s.env s.draws, draws := s.draws + 1 }

/-- An access that is not 4 bytes, not aligned or not mapped, or a write to a read-only register, only sets the refusal
mark (R73, R74). The form in which the model holds it is its own choice (log entries 4 and 7). -/
def Obligations.OtherAccessesAreRefused : Prop :=
  (∀ (s : State) (offset bytes : Nat) (v : Word), bytes ≠ 4 ∨ offset % 4 ≠ 0 ∨ 0x28 ≤ offset →
      hostRead offset bytes s = { s with refusalMark := true }
        ∧ hostWrite offset bytes v s = { s with refusalMark := true })
    ∧ (∀ (s : State) (v : Word), ∀ offset ∈ [0x0C, 0x10, 0x14, 0x18, 0x1C, 0x20, 0x24],
      hostWrite offset 4 v s = { s with refusalMark := true })
    ∧ ∀ s : State, hostRead 0x00 4 s = { s with readData := Config.busyRead s.env s.draws, draws := s.draws + 1 }

/-- A write to CMD, ARG0 or ARG1 while BUSY records CONCURRENT_ACCESS and has no other effect (R77). -/
def Obligations.WritesWhileBusyAreConcurrentAccess : Prop :=
  ∀ (s : State) (v : Word), s.phase ≠ .idle → ∀ offset ∈ [0x00, 0x04, 0x08],
    hostWrite offset 4 v s = { s with faults := (hostWrite offset 4 v s).faults }
      ∧ Fault.concurrentAccess ∈ (hostWrite offset 4 v s).faults

/-- While IDLE a write to ARG0 or ARG1 sets it and a write to CMD latches the word with both and sets BUSY (10_state.md
R38, R39, R43, 20_memory.md R75, 30_encoding.md R91). It rests on the model's choice of log entries 7 and 21. -/
def Obligations.IdleWritesSetArgsAndStartCommands : Prop :=
  ∀ (s : State) (v : Word), s.phase = .idle →
    hostWrite 0x04 4 v s = { s with arg0 := v } ∧ hostWrite 0x08 4 v s = { s with arg1 := v }
      ∧ hostWrite 0x00 4 v s = { s with phase := .start v s.arg0 s.arg1, observed := false }
      ∧ (hostWrite 0x00 4 v s).busy = true
      ∧ (hostRead 0x04 4 (hostWrite 0x04 4 v s)).readData = v
      ∧ (hostRead 0x08 4 (hostWrite 0x08 4 v s)).readData = v

/-- Block instances start each from its own reset and environment, and a step of one changes no other and depends on no
other (20_memory.md R81, 60_exceptions.md R239, notes/assumptions/4.md, notes/assumptions/16.md). It rests on the
model's choice of log entries 4 and 16. -/
def Obligations.InstancesShareNothing : Prop :=
  (∀ (inits : List (Params × Init)) (blocks : List State), constructAll inits = .next blocks →
      blocks.length = inits.length ∧ (blocks.map State.env).Nodup
        ∧ ∀ (k : Nat) (p : Params) (i : Init), inits[k]? = some (p, i) →
          State.construct p i k = .next (State.atReset p i k) ∧ blocks[k]? = some (State.atReset p i k))
    ∧ (∀ (blocks : List State) (k : Nat) (s : State), blocks[k]? = some s →
      ∃ (t : State) (after : List State), step s = .next t ∧ stepInstance k blocks = .next after
        ∧ after[k]? = some t ∧ (∀ j, j ≠ k → after[j]? = blocks[j]?)
        ∧ after.map State.env = blocks.map State.env)
    ∧ ∀ (blocks : List State) (address bytes : Nat) (v : Word) (j : Nat) (s : State), blocks[j]? = some s →
      offsetInAperture? s.params address = none → (platformWrite address bytes v blocks)[j]? = some s

/-- However the clock moves, a command run primitive by primitive ends where exec of it ends, times left out
(10_state.md R44, 30_encoding.md R91, 41_stepping_engine.md R141, R147, notes/assumptions/1.md,
notes/assumptions/4.md, notes/assumptions/12.md). It rests on the model's choice of log entries 1, 4 and 12. -/
def Obligations.SequencerReachesWhatExecAnswers : Prop :=
  ∀ (s : State) (w a0 a1 : Word) (k : Nat), s.phase = .start w a0 a1 → (blockMoves k s).phase = .idle →
    (∀ i, decode w a0 a1 = .ok i → ∃ t, exec i s = .next t ∧ (blockMoves k s).untimed = t.untimed)
      ∧ ∀ e, decode w a0 a1 = .error e →
        (blockMoves k s).untimed = { s with result := 0#32, err := .illegal, phase := .idle }.untimed

/-- Each move of a busy block is a poll whose bound the clock has not reached, or brings the command nearer its end
(60_exceptions.md R229, R237, 41_stepping_engine.md R145, notes/assumptions/12.md). It rests on the model's choice
of log entry 12. -/
def Obligations.OnlyAFailedPollDelaysCompletion : Prop :=
  (∀ s : State, s.Inv → s.phase ≠ .idle →
      s.failedPoll (blockMove s) ∨ (blockMove s).movesLeft < s.movesLeft)
    ∧ ∀ s : State, s.Inv → (s.movesLeft = 0 ↔ s.phase = .idle)

/-- Under R237's assumption every wait returns and every command completes, in the sequencer and in the machine's steps
(60_exceptions.md R237, 41_stepping_engine.md R145, notes/assumptions/20.md). It rests on the model's choice of log
entries 1, 12 and 20. -/
def Obligations.EveryCommandCompletesWhileTheClockGoesOn : Prop :=
  ∀ s : State, s.Inv → s.clockStop = none →
    (∃ k, (blockMoves k s).phase = .idle)
      ∧ (s.host = [] ∨ (∃ rest, s.host = .poll :: rest) →
        ∃ k t, Host.Core.run Sys2Proof.core k s = .next t ∧ t.phase = .idle ∧ t.params = s.params)

/-- A wait for a clock value that a faulty clock never reaches goes on for ever, and so does the host's poll of it
(60_exceptions.md R229, 41_stepping_engine.md R145, notes/assumptions/1.md, notes/assumptions/20.md). It rests on
the model's choice of log entries 1, 12 and 20. -/
def Obligations.AStoppedClockHangsTheCommand : Prop :=
  ∀ s : State, s.Inv → s.hung →
    (∀ k, (blockMoves k s).phase = s.phase)
      ∧ (s.host = [] ∨ (∃ rest, s.host = .poll :: rest) →
        ∀ k, ∃ t, Host.Core.run Sys2Proof.core k s = .next t ∧ t.phase = s.phase ∧ t.host = s.host ∧ t.busy = true
          ∧ t.trace = s.trace)

/-- A STEP under way is at none of R44's points, then at POLL and PULSE in turn, then at DONE until it is IDLE
(41_stepping_engine.md R141, R147, 10_state.md R44, notes/assumptions/12.md). It rests on the model's choice of log
entry 12. -/
def Obligations.StepGoesThroughPendingPulsedAndDone : Prop :=
  ∀ (s : State) (c : Word) (point : Nat) (l : Locals), s.Inv → s.phase = .run (.step c) point l →
    (s.stepPoint? = none →
        l.n = c.toInt.natAbs ∧ (blockMove s).stepPoint? ∈ [none, some StepPoint.poll, some StepPoint.done])
      ∧ (s.stepPoint? = some .poll → (blockMove s).stepPoint? ∈ [some StepPoint.poll, some StepPoint.pulse])
      ∧ (s.stepPoint? = some .pulse →
        (blockMove s).stepPoint? ∈ [some StepPoint.pulse, some StepPoint.poll, some StepPoint.done])
      ∧ (s.stepPoint? = some .done → (blockMove s).stepPoint? = some .done ∨ (blockMove s).phase = .idle)

/-- STEP's sequencer leaves POLL only at a sample at which the pacing condition holds, and keeps that sample (R140). The
form in which the model holds it is its own choice (log entry 12). -/
def Obligations.PacedPulseWaitsForItsInterval : Prop :=
  (∀ (s : State) (c : Word) (point : Nat) (l : Locals), s.phase = .run (.step c) point l → s.stepPoint? = some .poll →
      (s.lastPulseTime + s.pulseInterval.toNat ≤ (blockMove s).clock
          ∧ (blockMove s).stepPoint? = some .pulse
          ∧ (blockMove s).phase = .run (.step c) (point + 1) { l with t := (blockMove s).clock })
        ∨ ((blockMove s).clock < s.lastPulseTime + s.pulseInterval.toNat ∧ blockMove s = sampleClock s
          ∧ (blockMove s).stepPoint? = some .poll))
    ∧ ∀ (s : State) (c : Word) (point : Nat) (l : Locals), s.phase = .run (.step c) point l →
      (blockMove s).lastPulseTime ≠ s.lastPulseTime → (blockMove s).lastPulseTime = l.t

/-- The pseudo-commands expand to the CMD words R101 gives them (30_encoding.md R100, R101). It rests on the model's
choice of log entry 15. -/
def Obligations.AssemblerPseudoCommandsExpand : Prop :=
  (Pseudo.expand .enable).cmdWord = 0x00001030#32 ∧ (Pseudo.expand .disable).cmdWord = 0x00000030#32
    ∧ (Pseudo.expand .sleep).cmdWord = 0x00001034#32 ∧ (Pseudo.expand .wake).cmdWord = 0x00000034#32
    ∧ assembleLine "ENABLE".toList = some [Pseudo.expand .enable]
    ∧ assembleLine "DISABLE".toList = some [Pseudo.expand .disable]
    ∧ assembleLine "SLEEP".toList = some [Pseudo.expand .sleep]
    ∧ assembleLine "WAKE".toList = some [Pseudo.expand .wake]
end

