-- ==== Sys2Proof/Laws/State.lean ====
section
/-! SUPPORT. One lemma per field and operation: what an operation leaves as it was, and the field it sets where the value
is plain. No later proof unfolds a record update. -/

namespace Sys2Proof.Machine

variable (s : State)

@[simp] theorem sampleClock_params : (sampleClock s).params = s.params := rfl
@[simp] theorem sampleClock_pulseInterval : (sampleClock s).pulseInterval = s.pulseInterval := rfl
@[simp] theorem sampleClock_position : (sampleClock s).position = s.position := rfl
@[simp] theorem sampleClock_lastPulseTime : (sampleClock s).lastPulseTime = s.lastPulseTime := rfl
@[simp] theorem sampleClock_microstepMode : (sampleClock s).microstepMode = s.microstepMode := rfl
@[simp] theorem sampleClock_enabled : (sampleClock s).enabled = s.enabled := rfl
@[simp] theorem sampleClock_pins : (sampleClock s).pins = s.pins := rfl
@[simp] theorem sampleClock_arg0 : (sampleClock s).arg0 = s.arg0 := rfl
@[simp] theorem sampleClock_arg1 : (sampleClock s).arg1 = s.arg1 := rfl
@[simp] theorem sampleClock_result : (sampleClock s).result = s.result := rfl
@[simp] theorem sampleClock_err : (sampleClock s).err = s.err := rfl
@[simp] theorem sampleClock_phase : (sampleClock s).phase = s.phase := rfl
@[simp] theorem sampleClock_trace : (sampleClock s).trace = s.trace := rfl
@[simp] theorem sampleClock_faults : (sampleClock s).faults = s.faults := rfl
@[simp] theorem sampleClock_refusalMark : (sampleClock s).refusalMark = s.refusalMark := rfl
@[simp] theorem sampleClock_host : (sampleClock s).host = s.host := rfl
@[simp] theorem sampleClock_readData : (sampleClock s).readData = s.readData := rfl
@[simp] theorem sampleClock_env : (sampleClock s).env = s.env := rfl
@[simp] theorem sampleClock_clockStop : (sampleClock s).clockStop = s.clockStop := rfl
@[simp] theorem sampleClock_observed : (sampleClock s).observed = s.observed := rfl
@[simp] theorem sampleClock_hasPin (p : Pin) : (sampleClock s).hasPin p = s.hasPin p := by simp [State.hasPin]

@[simp] theorem recordEvent_params (pin : Pin) (what : PinAction) : (recordEvent pin what s).params = s.params := rfl
@[simp] theorem recordEvent_pulseInterval (pin : Pin) (what : PinAction) : (recordEvent pin what s).pulseInterval = s.pulseInterval := rfl
@[simp] theorem recordEvent_position (pin : Pin) (what : PinAction) : (recordEvent pin what s).position = s.position := rfl
@[simp] theorem recordEvent_lastPulseTime (pin : Pin) (what : PinAction) : (recordEvent pin what s).lastPulseTime = s.lastPulseTime := rfl
@[simp] theorem recordEvent_microstepMode (pin : Pin) (what : PinAction) : (recordEvent pin what s).microstepMode = s.microstepMode := rfl
@[simp] theorem recordEvent_enabled (pin : Pin) (what : PinAction) : (recordEvent pin what s).enabled = s.enabled := rfl
@[simp] theorem recordEvent_pins (pin : Pin) (what : PinAction) : (recordEvent pin what s).pins = s.pins := rfl
@[simp] theorem recordEvent_arg0 (pin : Pin) (what : PinAction) : (recordEvent pin what s).arg0 = s.arg0 := rfl
@[simp] theorem recordEvent_arg1 (pin : Pin) (what : PinAction) : (recordEvent pin what s).arg1 = s.arg1 := rfl
@[simp] theorem recordEvent_result (pin : Pin) (what : PinAction) : (recordEvent pin what s).result = s.result := rfl
@[simp] theorem recordEvent_err (pin : Pin) (what : PinAction) : (recordEvent pin what s).err = s.err := rfl
@[simp] theorem recordEvent_phase (pin : Pin) (what : PinAction) : (recordEvent pin what s).phase = s.phase := rfl
@[simp] theorem recordEvent_faults (pin : Pin) (what : PinAction) : (recordEvent pin what s).faults = s.faults := rfl
@[simp] theorem recordEvent_refusalMark (pin : Pin) (what : PinAction) : (recordEvent pin what s).refusalMark = s.refusalMark := rfl
@[simp] theorem recordEvent_clock (pin : Pin) (what : PinAction) : (recordEvent pin what s).clock = s.clock := rfl
@[simp] theorem recordEvent_draws (pin : Pin) (what : PinAction) : (recordEvent pin what s).draws = s.draws := rfl
@[simp] theorem recordEvent_lull (pin : Pin) (what : PinAction) : (recordEvent pin what s).lull = s.lull := rfl
@[simp] theorem recordEvent_host (pin : Pin) (what : PinAction) : (recordEvent pin what s).host = s.host := rfl
@[simp] theorem recordEvent_readData (pin : Pin) (what : PinAction) : (recordEvent pin what s).readData = s.readData := rfl
@[simp] theorem recordEvent_env (pin : Pin) (what : PinAction) : (recordEvent pin what s).env = s.env := rfl
@[simp] theorem recordEvent_clockStop (pin : Pin) (what : PinAction) : (recordEvent pin what s).clockStop = s.clockStop := rfl
@[simp] theorem recordEvent_observed (pin : Pin) (what : PinAction) : (recordEvent pin what s).observed = s.observed := rfl
@[simp] theorem recordEvent_hasPin (pin : Pin) (what : PinAction) (p : Pin) : (recordEvent pin what s).hasPin p = s.hasPin p := by simp [State.hasPin]

@[simp] theorem waitUntil_params (bound : Nat) : (waitUntil bound s).params = s.params := rfl
@[simp] theorem waitUntil_pulseInterval (bound : Nat) : (waitUntil bound s).pulseInterval = s.pulseInterval := rfl
@[simp] theorem waitUntil_position (bound : Nat) : (waitUntil bound s).position = s.position := rfl
@[simp] theorem waitUntil_lastPulseTime (bound : Nat) : (waitUntil bound s).lastPulseTime = s.lastPulseTime := rfl
@[simp] theorem waitUntil_microstepMode (bound : Nat) : (waitUntil bound s).microstepMode = s.microstepMode := rfl
@[simp] theorem waitUntil_enabled (bound : Nat) : (waitUntil bound s).enabled = s.enabled := rfl
@[simp] theorem waitUntil_pins (bound : Nat) : (waitUntil bound s).pins = s.pins := rfl
@[simp] theorem waitUntil_arg0 (bound : Nat) : (waitUntil bound s).arg0 = s.arg0 := rfl
@[simp] theorem waitUntil_arg1 (bound : Nat) : (waitUntil bound s).arg1 = s.arg1 := rfl
@[simp] theorem waitUntil_result (bound : Nat) : (waitUntil bound s).result = s.result := rfl
@[simp] theorem waitUntil_err (bound : Nat) : (waitUntil bound s).err = s.err := rfl
@[simp] theorem waitUntil_phase (bound : Nat) : (waitUntil bound s).phase = s.phase := rfl
@[simp] theorem waitUntil_trace (bound : Nat) : (waitUntil bound s).trace = s.trace := rfl
@[simp] theorem waitUntil_faults (bound : Nat) : (waitUntil bound s).faults = s.faults := rfl
@[simp] theorem waitUntil_refusalMark (bound : Nat) : (waitUntil bound s).refusalMark = s.refusalMark := rfl
@[simp] theorem waitUntil_host (bound : Nat) : (waitUntil bound s).host = s.host := rfl
@[simp] theorem waitUntil_readData (bound : Nat) : (waitUntil bound s).readData = s.readData := rfl
@[simp] theorem waitUntil_env (bound : Nat) : (waitUntil bound s).env = s.env := rfl
@[simp] theorem waitUntil_clockStop (bound : Nat) : (waitUntil bound s).clockStop = s.clockStop := rfl
@[simp] theorem waitUntil_observed (bound : Nat) : (waitUntil bound s).observed = s.observed := rfl
@[simp] theorem waitUntil_hasPin (bound : Nat) (p : Pin) : (waitUntil bound s).hasPin p = s.hasPin p := by simp [State.hasPin]

@[simp] theorem delayUs_params (n : Nat) : (delayUs n s).params = s.params := rfl
@[simp] theorem delayUs_pulseInterval (n : Nat) : (delayUs n s).pulseInterval = s.pulseInterval := rfl
@[simp] theorem delayUs_position (n : Nat) : (delayUs n s).position = s.position := rfl
@[simp] theorem delayUs_lastPulseTime (n : Nat) : (delayUs n s).lastPulseTime = s.lastPulseTime := rfl
@[simp] theorem delayUs_microstepMode (n : Nat) : (delayUs n s).microstepMode = s.microstepMode := rfl
@[simp] theorem delayUs_enabled (n : Nat) : (delayUs n s).enabled = s.enabled := rfl
@[simp] theorem delayUs_pins (n : Nat) : (delayUs n s).pins = s.pins := rfl
@[simp] theorem delayUs_arg0 (n : Nat) : (delayUs n s).arg0 = s.arg0 := rfl
@[simp] theorem delayUs_arg1 (n : Nat) : (delayUs n s).arg1 = s.arg1 := rfl
@[simp] theorem delayUs_result (n : Nat) : (delayUs n s).result = s.result := rfl
@[simp] theorem delayUs_err (n : Nat) : (delayUs n s).err = s.err := rfl
@[simp] theorem delayUs_phase (n : Nat) : (delayUs n s).phase = s.phase := rfl
@[simp] theorem delayUs_trace (n : Nat) : (delayUs n s).trace = s.trace := rfl
@[simp] theorem delayUs_faults (n : Nat) : (delayUs n s).faults = s.faults := rfl
@[simp] theorem delayUs_refusalMark (n : Nat) : (delayUs n s).refusalMark = s.refusalMark := rfl
@[simp] theorem delayUs_host (n : Nat) : (delayUs n s).host = s.host := rfl
@[simp] theorem delayUs_readData (n : Nat) : (delayUs n s).readData = s.readData := rfl
@[simp] theorem delayUs_env (n : Nat) : (delayUs n s).env = s.env := rfl
@[simp] theorem delayUs_clockStop (n : Nat) : (delayUs n s).clockStop = s.clockStop := rfl
@[simp] theorem delayUs_observed (n : Nat) : (delayUs n s).observed = s.observed := rfl
@[simp] theorem delayUs_hasPin (n : Nat) (p : Pin) : (delayUs n s).hasPin p = s.hasPin p := by simp [State.hasPin]

@[simp] theorem waitPace_params : (waitPace s).params = s.params := rfl
@[simp] theorem waitPace_pulseInterval : (waitPace s).pulseInterval = s.pulseInterval := rfl
@[simp] theorem waitPace_position : (waitPace s).position = s.position := rfl
@[simp] theorem waitPace_lastPulseTime : (waitPace s).lastPulseTime = s.lastPulseTime := rfl
@[simp] theorem waitPace_microstepMode : (waitPace s).microstepMode = s.microstepMode := rfl
@[simp] theorem waitPace_enabled : (waitPace s).enabled = s.enabled := rfl
@[simp] theorem waitPace_pins : (waitPace s).pins = s.pins := rfl
@[simp] theorem waitPace_arg0 : (waitPace s).arg0 = s.arg0 := rfl
@[simp] theorem waitPace_arg1 : (waitPace s).arg1 = s.arg1 := rfl
@[simp] theorem waitPace_result : (waitPace s).result = s.result := rfl
@[simp] theorem waitPace_err : (waitPace s).err = s.err := rfl
@[simp] theorem waitPace_phase : (waitPace s).phase = s.phase := rfl
@[simp] theorem waitPace_trace : (waitPace s).trace = s.trace := rfl
@[simp] theorem waitPace_faults : (waitPace s).faults = s.faults := rfl
@[simp] theorem waitPace_refusalMark : (waitPace s).refusalMark = s.refusalMark := rfl
@[simp] theorem waitPace_host : (waitPace s).host = s.host := rfl
@[simp] theorem waitPace_readData : (waitPace s).readData = s.readData := rfl
@[simp] theorem waitPace_env : (waitPace s).env = s.env := rfl
@[simp] theorem waitPace_clockStop : (waitPace s).clockStop = s.clockStop := rfl
@[simp] theorem waitPace_observed : (waitPace s).observed = s.observed := rfl
@[simp] theorem waitPace_hasPin (p : Pin) : (waitPace s).hasPin p = s.hasPin p := by simp [State.hasPin]

@[simp] theorem complete_params (v : Word) : (complete v s).params = s.params := rfl
@[simp] theorem complete_pulseInterval (v : Word) : (complete v s).pulseInterval = s.pulseInterval := rfl
@[simp] theorem complete_position (v : Word) : (complete v s).position = s.position := rfl
@[simp] theorem complete_lastPulseTime (v : Word) : (complete v s).lastPulseTime = s.lastPulseTime := rfl
@[simp] theorem complete_microstepMode (v : Word) : (complete v s).microstepMode = s.microstepMode := rfl
@[simp] theorem complete_enabled (v : Word) : (complete v s).enabled = s.enabled := rfl
@[simp] theorem complete_pins (v : Word) : (complete v s).pins = s.pins := rfl
@[simp] theorem complete_arg0 (v : Word) : (complete v s).arg0 = s.arg0 := rfl
@[simp] theorem complete_arg1 (v : Word) : (complete v s).arg1 = s.arg1 := rfl
@[simp] theorem complete_trace (v : Word) : (complete v s).trace = s.trace := rfl
@[simp] theorem complete_faults (v : Word) : (complete v s).faults = s.faults := rfl
@[simp] theorem complete_refusalMark (v : Word) : (complete v s).refusalMark = s.refusalMark := rfl
@[simp] theorem complete_clock (v : Word) : (complete v s).clock = s.clock := rfl
@[simp] theorem complete_draws (v : Word) : (complete v s).draws = s.draws := rfl
@[simp] theorem complete_lull (v : Word) : (complete v s).lull = s.lull := rfl
@[simp] theorem complete_host (v : Word) : (complete v s).host = s.host := rfl
@[simp] theorem complete_readData (v : Word) : (complete v s).readData = s.readData := rfl
@[simp] theorem complete_env (v : Word) : (complete v s).env = s.env := rfl
@[simp] theorem complete_clockStop (v : Word) : (complete v s).clockStop = s.clockStop := rfl
@[simp] theorem complete_observed (v : Word) : (complete v s).observed = s.observed := rfl
@[simp] theorem complete_hasPin (v : Word) (p : Pin) : (complete v s).hasPin p = s.hasPin p := by simp [State.hasPin]

@[simp] theorem raiseErr_params (code : ErrCode) : (raiseErr code s).params = s.params := rfl
@[simp] theorem raiseErr_pulseInterval (code : ErrCode) : (raiseErr code s).pulseInterval = s.pulseInterval := rfl
@[simp] theorem raiseErr_position (code : ErrCode) : (raiseErr code s).position = s.position := rfl
@[simp] theorem raiseErr_lastPulseTime (code : ErrCode) : (raiseErr code s).lastPulseTime = s.lastPulseTime := rfl
@[simp] theorem raiseErr_microstepMode (code : ErrCode) : (raiseErr code s).microstepMode = s.microstepMode := rfl
@[simp] theorem raiseErr_enabled (code : ErrCode) : (raiseErr code s).enabled = s.enabled := rfl
@[simp] theorem raiseErr_pins (code : ErrCode) : (raiseErr code s).pins = s.pins := rfl
@[simp] theorem raiseErr_arg0 (code : ErrCode) : (raiseErr code s).arg0 = s.arg0 := rfl
@[simp] theorem raiseErr_arg1 (code : ErrCode) : (raiseErr code s).arg1 = s.arg1 := rfl
@[simp] theorem raiseErr_trace (code : ErrCode) : (raiseErr code s).trace = s.trace := rfl
@[simp] theorem raiseErr_faults (code : ErrCode) : (raiseErr code s).faults = s.faults := rfl
@[simp] theorem raiseErr_refusalMark (code : ErrCode) : (raiseErr code s).refusalMark = s.refusalMark := rfl
@[simp] theorem raiseErr_clock (code : ErrCode) : (raiseErr code s).clock = s.clock := rfl
@[simp] theorem raiseErr_draws (code : ErrCode) : (raiseErr code s).draws = s.draws := rfl
@[simp] theorem raiseErr_lull (code : ErrCode) : (raiseErr code s).lull = s.lull := rfl
@[simp] theorem raiseErr_host (code : ErrCode) : (raiseErr code s).host = s.host := rfl
@[simp] theorem raiseErr_readData (code : ErrCode) : (raiseErr code s).readData = s.readData := rfl
@[simp] theorem raiseErr_env (code : ErrCode) : (raiseErr code s).env = s.env := rfl
@[simp] theorem raiseErr_clockStop (code : ErrCode) : (raiseErr code s).clockStop = s.clockStop := rfl
@[simp] theorem raiseErr_observed (code : ErrCode) : (raiseErr code s).observed = s.observed := rfl
@[simp] theorem raiseErr_hasPin (code : ErrCode) (p : Pin) : (raiseErr code s).hasPin p = s.hasPin p := by simp [State.hasPin]

@[simp] theorem finish_params : (finish s).params = s.params := rfl
@[simp] theorem finish_pulseInterval : (finish s).pulseInterval = s.pulseInterval := rfl
@[simp] theorem finish_position : (finish s).position = s.position := rfl
@[simp] theorem finish_lastPulseTime : (finish s).lastPulseTime = s.lastPulseTime := rfl
@[simp] theorem finish_microstepMode : (finish s).microstepMode = s.microstepMode := rfl
@[simp] theorem finish_enabled : (finish s).enabled = s.enabled := rfl
@[simp] theorem finish_pins : (finish s).pins = s.pins := rfl
@[simp] theorem finish_arg0 : (finish s).arg0 = s.arg0 := rfl
@[simp] theorem finish_arg1 : (finish s).arg1 = s.arg1 := rfl
@[simp] theorem finish_result : (finish s).result = s.result := rfl
@[simp] theorem finish_trace : (finish s).trace = s.trace := rfl
@[simp] theorem finish_faults : (finish s).faults = s.faults := rfl
@[simp] theorem finish_refusalMark : (finish s).refusalMark = s.refusalMark := rfl
@[simp] theorem finish_clock : (finish s).clock = s.clock := rfl
@[simp] theorem finish_draws : (finish s).draws = s.draws := rfl
@[simp] theorem finish_lull : (finish s).lull = s.lull := rfl
@[simp] theorem finish_host : (finish s).host = s.host := rfl
@[simp] theorem finish_readData : (finish s).readData = s.readData := rfl
@[simp] theorem finish_env : (finish s).env = s.env := rfl
@[simp] theorem finish_clockStop : (finish s).clockStop = s.clockStop := rfl
@[simp] theorem finish_observed : (finish s).observed = s.observed := rfl
@[simp] theorem finish_hasPin (p : Pin) : (finish s).hasPin p = s.hasPin p := by simp [State.hasPin]

@[simp] theorem runAt_params (c : Instr) (point : Nat) (l : Locals) : (runAt c point l s).params = s.params := rfl
@[simp] theorem runAt_pulseInterval (c : Instr) (point : Nat) (l : Locals) : (runAt c point l s).pulseInterval = s.pulseInterval := rfl
@[simp] theorem runAt_position (c : Instr) (point : Nat) (l : Locals) : (runAt c point l s).position = s.position := rfl
@[simp] theorem runAt_lastPulseTime (c : Instr) (point : Nat) (l : Locals) : (runAt c point l s).lastPulseTime = s.lastPulseTime := rfl
@[simp] theorem runAt_microstepMode (c : Instr) (point : Nat) (l : Locals) : (runAt c point l s).microstepMode = s.microstepMode := rfl
@[simp] theorem runAt_enabled (c : Instr) (point : Nat) (l : Locals) : (runAt c point l s).enabled = s.enabled := rfl
@[simp] theorem runAt_pins (c : Instr) (point : Nat) (l : Locals) : (runAt c point l s).pins = s.pins := rfl
@[simp] theorem runAt_arg0 (c : Instr) (point : Nat) (l : Locals) : (runAt c point l s).arg0 = s.arg0 := rfl
@[simp] theorem runAt_arg1 (c : Instr) (point : Nat) (l : Locals) : (runAt c point l s).arg1 = s.arg1 := rfl
@[simp] theorem runAt_result (c : Instr) (point : Nat) (l : Locals) : (runAt c point l s).result = s.result := rfl
@[simp] theorem runAt_err (c : Instr) (point : Nat) (l : Locals) : (runAt c point l s).err = s.err := rfl
@[simp] theorem runAt_trace (c : Instr) (point : Nat) (l : Locals) : (runAt c point l s).trace = s.trace := rfl
@[simp] theorem runAt_faults (c : Instr) (point : Nat) (l : Locals) : (runAt c point l s).faults = s.faults := rfl
@[simp] theorem runAt_refusalMark (c : Instr) (point : Nat) (l : Locals) : (runAt c point l s).refusalMark = s.refusalMark := rfl
@[simp] theorem runAt_clock (c : Instr) (point : Nat) (l : Locals) : (runAt c point l s).clock = s.clock := rfl
@[simp] theorem runAt_draws (c : Instr) (point : Nat) (l : Locals) : (runAt c point l s).draws = s.draws := rfl
@[simp] theorem runAt_lull (c : Instr) (point : Nat) (l : Locals) : (runAt c point l s).lull = s.lull := rfl
@[simp] theorem runAt_host (c : Instr) (point : Nat) (l : Locals) : (runAt c point l s).host = s.host := rfl
@[simp] theorem runAt_readData (c : Instr) (point : Nat) (l : Locals) : (runAt c point l s).readData = s.readData := rfl
@[simp] theorem runAt_env (c : Instr) (point : Nat) (l : Locals) : (runAt c point l s).env = s.env := rfl
@[simp] theorem runAt_clockStop (c : Instr) (point : Nat) (l : Locals) : (runAt c point l s).clockStop = s.clockStop := rfl
@[simp] theorem runAt_observed (c : Instr) (point : Nat) (l : Locals) : (runAt c point l s).observed = s.observed := rfl
@[simp] theorem runAt_hasPin (c : Instr) (point : Nat) (l : Locals) (p : Pin) : (runAt c point l s).hasPin p = s.hasPin p := by simp [State.hasPin]

@[simp] theorem pinWrite_params (o : OutPin) (v : Bool) : (pinWrite o v s).params = s.params := by unfold pinWrite; split <;> rfl
@[simp] theorem pinWrite_pulseInterval (o : OutPin) (v : Bool) : (pinWrite o v s).pulseInterval = s.pulseInterval := by unfold pinWrite; split <;> rfl
@[simp] theorem pinWrite_position (o : OutPin) (v : Bool) : (pinWrite o v s).position = s.position := by unfold pinWrite; split <;> rfl
@[simp] theorem pinWrite_lastPulseTime (o : OutPin) (v : Bool) : (pinWrite o v s).lastPulseTime = s.lastPulseTime := by unfold pinWrite; split <;> rfl
@[simp] theorem pinWrite_microstepMode (o : OutPin) (v : Bool) : (pinWrite o v s).microstepMode = s.microstepMode := by unfold pinWrite; split <;> rfl
@[simp] theorem pinWrite_enabled (o : OutPin) (v : Bool) : (pinWrite o v s).enabled = s.enabled := by unfold pinWrite; split <;> rfl
@[simp] theorem pinWrite_arg0 (o : OutPin) (v : Bool) : (pinWrite o v s).arg0 = s.arg0 := by unfold pinWrite; split <;> rfl
@[simp] theorem pinWrite_arg1 (o : OutPin) (v : Bool) : (pinWrite o v s).arg1 = s.arg1 := by unfold pinWrite; split <;> rfl
@[simp] theorem pinWrite_result (o : OutPin) (v : Bool) : (pinWrite o v s).result = s.result := by unfold pinWrite; split <;> rfl
@[simp] theorem pinWrite_err (o : OutPin) (v : Bool) : (pinWrite o v s).err = s.err := by unfold pinWrite; split <;> rfl
@[simp] theorem pinWrite_phase (o : OutPin) (v : Bool) : (pinWrite o v s).phase = s.phase := by unfold pinWrite; split <;> rfl
@[simp] theorem pinWrite_faults (o : OutPin) (v : Bool) : (pinWrite o v s).faults = s.faults := by unfold pinWrite; split <;> rfl
@[simp] theorem pinWrite_refusalMark (o : OutPin) (v : Bool) : (pinWrite o v s).refusalMark = s.refusalMark := by unfold pinWrite; split <;> rfl
@[simp] theorem pinWrite_host (o : OutPin) (v : Bool) : (pinWrite o v s).host = s.host := by unfold pinWrite; split <;> rfl
@[simp] theorem pinWrite_readData (o : OutPin) (v : Bool) : (pinWrite o v s).readData = s.readData := by unfold pinWrite; split <;> rfl
@[simp] theorem pinWrite_env (o : OutPin) (v : Bool) : (pinWrite o v s).env = s.env := by unfold pinWrite; split <;> rfl
@[simp] theorem pinWrite_clockStop (o : OutPin) (v : Bool) : (pinWrite o v s).clockStop = s.clockStop := by unfold pinWrite; split <;> rfl
@[simp] theorem pinWrite_observed (o : OutPin) (v : Bool) : (pinWrite o v s).observed = s.observed := by unfold pinWrite; split <;> rfl
@[simp] theorem pinWrite_hasPin (o : OutPin) (v : Bool) (p : Pin) : (pinWrite o v s).hasPin p = s.hasPin p := by simp [State.hasPin]

@[simp] theorem pinCfgOutLow_params : (pinCfgOutLow s).params = s.params := by unfold pinCfgOutLow; split <;> rfl
@[simp] theorem pinCfgOutLow_pulseInterval : (pinCfgOutLow s).pulseInterval = s.pulseInterval := by unfold pinCfgOutLow; split <;> rfl
@[simp] theorem pinCfgOutLow_position : (pinCfgOutLow s).position = s.position := by unfold pinCfgOutLow; split <;> rfl
@[simp] theorem pinCfgOutLow_lastPulseTime : (pinCfgOutLow s).lastPulseTime = s.lastPulseTime := by unfold pinCfgOutLow; split <;> rfl
@[simp] theorem pinCfgOutLow_microstepMode : (pinCfgOutLow s).microstepMode = s.microstepMode := by unfold pinCfgOutLow; split <;> rfl
@[simp] theorem pinCfgOutLow_enabled : (pinCfgOutLow s).enabled = s.enabled := by unfold pinCfgOutLow; split <;> rfl
@[simp] theorem pinCfgOutLow_arg0 : (pinCfgOutLow s).arg0 = s.arg0 := by unfold pinCfgOutLow; split <;> rfl
@[simp] theorem pinCfgOutLow_arg1 : (pinCfgOutLow s).arg1 = s.arg1 := by unfold pinCfgOutLow; split <;> rfl
@[simp] theorem pinCfgOutLow_result : (pinCfgOutLow s).result = s.result := by unfold pinCfgOutLow; split <;> rfl
@[simp] theorem pinCfgOutLow_err : (pinCfgOutLow s).err = s.err := by unfold pinCfgOutLow; split <;> rfl
@[simp] theorem pinCfgOutLow_phase : (pinCfgOutLow s).phase = s.phase := by unfold pinCfgOutLow; split <;> rfl
@[simp] theorem pinCfgOutLow_faults : (pinCfgOutLow s).faults = s.faults := by unfold pinCfgOutLow; split <;> rfl
@[simp] theorem pinCfgOutLow_refusalMark : (pinCfgOutLow s).refusalMark = s.refusalMark := by unfold pinCfgOutLow; split <;> rfl
@[simp] theorem pinCfgOutLow_host : (pinCfgOutLow s).host = s.host := by unfold pinCfgOutLow; split <;> rfl
@[simp] theorem pinCfgOutLow_readData : (pinCfgOutLow s).readData = s.readData := by unfold pinCfgOutLow; split <;> rfl
@[simp] theorem pinCfgOutLow_env : (pinCfgOutLow s).env = s.env := by unfold pinCfgOutLow; split <;> rfl
@[simp] theorem pinCfgOutLow_clockStop : (pinCfgOutLow s).clockStop = s.clockStop := by unfold pinCfgOutLow; split <;> rfl
@[simp] theorem pinCfgOutLow_observed : (pinCfgOutLow s).observed = s.observed := by unfold pinCfgOutLow; split <;> rfl
@[simp] theorem pinCfgOutLow_hasPin (p : Pin) : (pinCfgOutLow s).hasPin p = s.hasPin p := by simp [State.hasPin]

@[simp] theorem pinCfgInPullup_params : (pinCfgInPullup s).params = s.params := by unfold pinCfgInPullup; split <;> rfl
@[simp] theorem pinCfgInPullup_pulseInterval : (pinCfgInPullup s).pulseInterval = s.pulseInterval := by unfold pinCfgInPullup; split <;> rfl
@[simp] theorem pinCfgInPullup_position : (pinCfgInPullup s).position = s.position := by unfold pinCfgInPullup; split <;> rfl
@[simp] theorem pinCfgInPullup_lastPulseTime : (pinCfgInPullup s).lastPulseTime = s.lastPulseTime := by unfold pinCfgInPullup; split <;> rfl
@[simp] theorem pinCfgInPullup_microstepMode : (pinCfgInPullup s).microstepMode = s.microstepMode := by unfold pinCfgInPullup; split <;> rfl
@[simp] theorem pinCfgInPullup_enabled : (pinCfgInPullup s).enabled = s.enabled := by unfold pinCfgInPullup; split <;> rfl
@[simp] theorem pinCfgInPullup_arg0 : (pinCfgInPullup s).arg0 = s.arg0 := by unfold pinCfgInPullup; split <;> rfl
@[simp] theorem pinCfgInPullup_arg1 : (pinCfgInPullup s).arg1 = s.arg1 := by unfold pinCfgInPullup; split <;> rfl
@[simp] theorem pinCfgInPullup_result : (pinCfgInPullup s).result = s.result := by unfold pinCfgInPullup; split <;> rfl
@[simp] theorem pinCfgInPullup_err : (pinCfgInPullup s).err = s.err := by unfold pinCfgInPullup; split <;> rfl
@[simp] theorem pinCfgInPullup_phase : (pinCfgInPullup s).phase = s.phase := by unfold pinCfgInPullup; split <;> rfl
@[simp] theorem pinCfgInPullup_faults : (pinCfgInPullup s).faults = s.faults := by unfold pinCfgInPullup; split <;> rfl
@[simp] theorem pinCfgInPullup_refusalMark : (pinCfgInPullup s).refusalMark = s.refusalMark := by unfold pinCfgInPullup; split <;> rfl
@[simp] theorem pinCfgInPullup_host : (pinCfgInPullup s).host = s.host := by unfold pinCfgInPullup; split <;> rfl
@[simp] theorem pinCfgInPullup_readData : (pinCfgInPullup s).readData = s.readData := by unfold pinCfgInPullup; split <;> rfl
@[simp] theorem pinCfgInPullup_env : (pinCfgInPullup s).env = s.env := by unfold pinCfgInPullup; split <;> rfl
@[simp] theorem pinCfgInPullup_clockStop : (pinCfgInPullup s).clockStop = s.clockStop := by unfold pinCfgInPullup; split <;> rfl
@[simp] theorem pinCfgInPullup_observed : (pinCfgInPullup s).observed = s.observed := by unfold pinCfgInPullup; split <;> rfl
@[simp] theorem pinCfgInPullup_hasPin (p : Pin) : (pinCfgInPullup s).hasPin p = s.hasPin p := by simp [State.hasPin]

@[simp] theorem advance_params (fwd : Bool) : (advance fwd s).params = s.params := by unfold advance; split <;> rfl
@[simp] theorem advance_pulseInterval (fwd : Bool) : (advance fwd s).pulseInterval = s.pulseInterval := by unfold advance; split <;> rfl
@[simp] theorem advance_lastPulseTime (fwd : Bool) : (advance fwd s).lastPulseTime = s.lastPulseTime := by unfold advance; split <;> rfl
@[simp] theorem advance_microstepMode (fwd : Bool) : (advance fwd s).microstepMode = s.microstepMode := by unfold advance; split <;> rfl
@[simp] theorem advance_enabled (fwd : Bool) : (advance fwd s).enabled = s.enabled := by unfold advance; split <;> rfl
@[simp] theorem advance_pins (fwd : Bool) : (advance fwd s).pins = s.pins := by unfold advance; split <;> rfl
@[simp] theorem advance_arg0 (fwd : Bool) : (advance fwd s).arg0 = s.arg0 := by unfold advance; split <;> rfl
@[simp] theorem advance_arg1 (fwd : Bool) : (advance fwd s).arg1 = s.arg1 := by unfold advance; split <;> rfl
@[simp] theorem advance_result (fwd : Bool) : (advance fwd s).result = s.result := by unfold advance; split <;> rfl
@[simp] theorem advance_err (fwd : Bool) : (advance fwd s).err = s.err := by unfold advance; split <;> rfl
@[simp] theorem advance_phase (fwd : Bool) : (advance fwd s).phase = s.phase := by unfold advance; split <;> rfl
@[simp] theorem advance_trace (fwd : Bool) : (advance fwd s).trace = s.trace := by unfold advance; split <;> rfl
@[simp] theorem advance_faults (fwd : Bool) : (advance fwd s).faults = s.faults := by unfold advance; split <;> rfl
@[simp] theorem advance_refusalMark (fwd : Bool) : (advance fwd s).refusalMark = s.refusalMark := by unfold advance; split <;> rfl
@[simp] theorem advance_clock (fwd : Bool) : (advance fwd s).clock = s.clock := by unfold advance; split <;> rfl
@[simp] theorem advance_draws (fwd : Bool) : (advance fwd s).draws = s.draws := by unfold advance; split <;> rfl
@[simp] theorem advance_host (fwd : Bool) : (advance fwd s).host = s.host := by unfold advance; split <;> rfl
@[simp] theorem advance_readData (fwd : Bool) : (advance fwd s).readData = s.readData := by unfold advance; split <;> rfl
@[simp] theorem advance_env (fwd : Bool) : (advance fwd s).env = s.env := by unfold advance; split <;> rfl
@[simp] theorem advance_clockStop (fwd : Bool) : (advance fwd s).clockStop = s.clockStop := by unfold advance; split <;> rfl
@[simp] theorem advance_observed (fwd : Bool) : (advance fwd s).observed = s.observed := by unfold advance; split <;> rfl
@[simp] theorem advance_hasPin (fwd : Bool) (p : Pin) : (advance fwd s).hasPin p = s.hasPin p := by simp [State.hasPin]

@[simp] theorem pulse_params : (pulse s).params = s.params := by simp [pulse]
@[simp] theorem pulse_pulseInterval : (pulse s).pulseInterval = s.pulseInterval := by simp [pulse]
@[simp] theorem pulse_position : (pulse s).position = s.position := by simp [pulse]
@[simp] theorem pulse_lastPulseTime : (pulse s).lastPulseTime = s.lastPulseTime := by simp [pulse]
@[simp] theorem pulse_microstepMode : (pulse s).microstepMode = s.microstepMode := by simp [pulse]
@[simp] theorem pulse_enabled : (pulse s).enabled = s.enabled := by simp [pulse]
@[simp] theorem pulse_arg0 : (pulse s).arg0 = s.arg0 := by simp [pulse]
@[simp] theorem pulse_arg1 : (pulse s).arg1 = s.arg1 := by simp [pulse]
@[simp] theorem pulse_result : (pulse s).result = s.result := by simp [pulse]
@[simp] theorem pulse_err : (pulse s).err = s.err := by simp [pulse]
@[simp] theorem pulse_phase : (pulse s).phase = s.phase := by simp [pulse]
@[simp] theorem pulse_faults : (pulse s).faults = s.faults := by simp [pulse]
@[simp] theorem pulse_refusalMark : (pulse s).refusalMark = s.refusalMark := by simp [pulse]
@[simp] theorem pulse_host : (pulse s).host = s.host := by simp [pulse]
@[simp] theorem pulse_readData : (pulse s).readData = s.readData := by simp [pulse]
@[simp] theorem pulse_env : (pulse s).env = s.env := by simp [pulse]
@[simp] theorem pulse_clockStop : (pulse s).clockStop = s.clockStop := by simp [pulse]
@[simp] theorem pulse_observed : (pulse s).observed = s.observed := by simp [pulse]
@[simp] theorem pulse_hasPin (p : Pin) : (pulse s).hasPin p = s.hasPin p := by simp [State.hasPin]

@[simp] theorem pacedPulse_params (fwd : Bool) : (pacedPulse fwd s).params = s.params := by simp [pacedPulse]
@[simp] theorem pacedPulse_pulseInterval (fwd : Bool) : (pacedPulse fwd s).pulseInterval = s.pulseInterval := by simp [pacedPulse]
@[simp] theorem pacedPulse_microstepMode (fwd : Bool) : (pacedPulse fwd s).microstepMode = s.microstepMode := by simp [pacedPulse]
@[simp] theorem pacedPulse_enabled (fwd : Bool) : (pacedPulse fwd s).enabled = s.enabled := by simp [pacedPulse]
@[simp] theorem pacedPulse_arg0 (fwd : Bool) : (pacedPulse fwd s).arg0 = s.arg0 := by simp [pacedPulse]
@[simp] theorem pacedPulse_arg1 (fwd : Bool) : (pacedPulse fwd s).arg1 = s.arg1 := by simp [pacedPulse]
@[simp] theorem pacedPulse_result (fwd : Bool) : (pacedPulse fwd s).result = s.result := by simp [pacedPulse]
@[simp] theorem pacedPulse_err (fwd : Bool) : (pacedPulse fwd s).err = s.err := by simp [pacedPulse]
@[simp] theorem pacedPulse_phase (fwd : Bool) : (pacedPulse fwd s).phase = s.phase := by simp [pacedPulse]
@[simp] theorem pacedPulse_faults (fwd : Bool) : (pacedPulse fwd s).faults = s.faults := by simp [pacedPulse]
@[simp] theorem pacedPulse_refusalMark (fwd : Bool) : (pacedPulse fwd s).refusalMark = s.refusalMark := by simp [pacedPulse]
@[simp] theorem pacedPulse_host (fwd : Bool) : (pacedPulse fwd s).host = s.host := by simp [pacedPulse]
@[simp] theorem pacedPulse_readData (fwd : Bool) : (pacedPulse fwd s).readData = s.readData := by simp [pacedPulse]
@[simp] theorem pacedPulse_env (fwd : Bool) : (pacedPulse fwd s).env = s.env := by simp [pacedPulse]
@[simp] theorem pacedPulse_clockStop (fwd : Bool) : (pacedPulse fwd s).clockStop = s.clockStop := by simp [pacedPulse]
@[simp] theorem pacedPulse_observed (fwd : Bool) : (pacedPulse fwd s).observed = s.observed := by simp [pacedPulse]
@[simp] theorem pacedPulse_hasPin (fwd : Bool) (p : Pin) : (pacedPulse fwd s).hasPin p = s.hasPin p := by simp [State.hasPin]

@[simp] theorem fixedPulse_params (w : Nat) : (fixedPulse w s).params = s.params := by simp [fixedPulse]
@[simp] theorem fixedPulse_pulseInterval (w : Nat) : (fixedPulse w s).pulseInterval = s.pulseInterval := by simp [fixedPulse]
@[simp] theorem fixedPulse_position (w : Nat) : (fixedPulse w s).position = s.position := by simp [fixedPulse]
@[simp] theorem fixedPulse_lastPulseTime (w : Nat) : (fixedPulse w s).lastPulseTime = s.lastPulseTime := by simp [fixedPulse]
@[simp] theorem fixedPulse_microstepMode (w : Nat) : (fixedPulse w s).microstepMode = s.microstepMode := by simp [fixedPulse]
@[simp] theorem fixedPulse_enabled (w : Nat) : (fixedPulse w s).enabled = s.enabled := by simp [fixedPulse]
@[simp] theorem fixedPulse_arg0 (w : Nat) : (fixedPulse w s).arg0 = s.arg0 := by simp [fixedPulse]
@[simp] theorem fixedPulse_arg1 (w : Nat) : (fixedPulse w s).arg1 = s.arg1 := by simp [fixedPulse]
@[simp] theorem fixedPulse_result (w : Nat) : (fixedPulse w s).result = s.result := by simp [fixedPulse]
@[simp] theorem fixedPulse_err (w : Nat) : (fixedPulse w s).err = s.err := by simp [fixedPulse]
@[simp] theorem fixedPulse_phase (w : Nat) : (fixedPulse w s).phase = s.phase := by simp [fixedPulse]
@[simp] theorem fixedPulse_faults (w : Nat) : (fixedPulse w s).faults = s.faults := by simp [fixedPulse]
@[simp] theorem fixedPulse_refusalMark (w : Nat) : (fixedPulse w s).refusalMark = s.refusalMark := by simp [fixedPulse]
@[simp] theorem fixedPulse_host (w : Nat) : (fixedPulse w s).host = s.host := by simp [fixedPulse]
@[simp] theorem fixedPulse_readData (w : Nat) : (fixedPulse w s).readData = s.readData := by simp [fixedPulse]
@[simp] theorem fixedPulse_env (w : Nat) : (fixedPulse w s).env = s.env := by simp [fixedPulse]
@[simp] theorem fixedPulse_clockStop (w : Nat) : (fixedPulse w s).clockStop = s.clockStop := by simp [fixedPulse]
@[simp] theorem fixedPulse_observed (w : Nat) : (fixedPulse w s).observed = s.observed := by simp [fixedPulse]
@[simp] theorem fixedPulse_hasPin (w : Nat) (p : Pin) : (fixedPulse w s).hasPin p = s.hasPin p := by simp [State.hasPin]

@[simp] theorem driveCode_params (code : BitVec 4) : (driveCode code s).params = s.params := by simp [driveCode]
@[simp] theorem driveCode_pulseInterval (code : BitVec 4) : (driveCode code s).pulseInterval = s.pulseInterval := by simp [driveCode]
@[simp] theorem driveCode_position (code : BitVec 4) : (driveCode code s).position = s.position := by simp [driveCode]
@[simp] theorem driveCode_lastPulseTime (code : BitVec 4) : (driveCode code s).lastPulseTime = s.lastPulseTime := by simp [driveCode]
@[simp] theorem driveCode_microstepMode (code : BitVec 4) : (driveCode code s).microstepMode = s.microstepMode := by simp [driveCode]
@[simp] theorem driveCode_enabled (code : BitVec 4) : (driveCode code s).enabled = s.enabled := by simp [driveCode]
@[simp] theorem driveCode_arg0 (code : BitVec 4) : (driveCode code s).arg0 = s.arg0 := by simp [driveCode]
@[simp] theorem driveCode_arg1 (code : BitVec 4) : (driveCode code s).arg1 = s.arg1 := by simp [driveCode]
@[simp] theorem driveCode_result (code : BitVec 4) : (driveCode code s).result = s.result := by simp [driveCode]
@[simp] theorem driveCode_err (code : BitVec 4) : (driveCode code s).err = s.err := by simp [driveCode]
@[simp] theorem driveCode_phase (code : BitVec 4) : (driveCode code s).phase = s.phase := by simp [driveCode]
@[simp] theorem driveCode_faults (code : BitVec 4) : (driveCode code s).faults = s.faults := by simp [driveCode]
@[simp] theorem driveCode_refusalMark (code : BitVec 4) : (driveCode code s).refusalMark = s.refusalMark := by simp [driveCode]
@[simp] theorem driveCode_host (code : BitVec 4) : (driveCode code s).host = s.host := by simp [driveCode]
@[simp] theorem driveCode_readData (code : BitVec 4) : (driveCode code s).readData = s.readData := by simp [driveCode]
@[simp] theorem driveCode_env (code : BitVec 4) : (driveCode code s).env = s.env := by simp [driveCode]
@[simp] theorem driveCode_clockStop (code : BitVec 4) : (driveCode code s).clockStop = s.clockStop := by simp [driveCode]
@[simp] theorem driveCode_observed (code : BitVec 4) : (driveCode code s).observed = s.observed := by simp [driveCode]
@[simp] theorem driveCode_hasPin (code : BitVec 4) (p : Pin) : (driveCode code s).hasPin p = s.hasPin p := by simp [State.hasPin]

@[simp] theorem latchSequence_params (m : MicrostepMode) : (latchSequence m s).params = s.params := by simp [latchSequence]
@[simp] theorem latchSequence_pulseInterval (m : MicrostepMode) : (latchSequence m s).pulseInterval = s.pulseInterval := by simp [latchSequence]
@[simp] theorem latchSequence_position (m : MicrostepMode) : (latchSequence m s).position = s.position := by simp [latchSequence]
@[simp] theorem latchSequence_lastPulseTime (m : MicrostepMode) : (latchSequence m s).lastPulseTime = s.lastPulseTime := by simp [latchSequence]
@[simp] theorem latchSequence_microstepMode (m : MicrostepMode) : (latchSequence m s).microstepMode = s.microstepMode := by simp [latchSequence]
@[simp] theorem latchSequence_enabled (m : MicrostepMode) : (latchSequence m s).enabled = s.enabled := by simp [latchSequence]
@[simp] theorem latchSequence_arg0 (m : MicrostepMode) : (latchSequence m s).arg0 = s.arg0 := by simp [latchSequence]
@[simp] theorem latchSequence_arg1 (m : MicrostepMode) : (latchSequence m s).arg1 = s.arg1 := by simp [latchSequence]
@[simp] theorem latchSequence_result (m : MicrostepMode) : (latchSequence m s).result = s.result := by simp [latchSequence]
@[simp] theorem latchSequence_err (m : MicrostepMode) : (latchSequence m s).err = s.err := by simp [latchSequence]
@[simp] theorem latchSequence_phase (m : MicrostepMode) : (latchSequence m s).phase = s.phase := by simp [latchSequence]
@[simp] theorem latchSequence_faults (m : MicrostepMode) : (latchSequence m s).faults = s.faults := by simp [latchSequence]
@[simp] theorem latchSequence_refusalMark (m : MicrostepMode) : (latchSequence m s).refusalMark = s.refusalMark := by simp [latchSequence]
@[simp] theorem latchSequence_host (m : MicrostepMode) : (latchSequence m s).host = s.host := by simp [latchSequence]
@[simp] theorem latchSequence_readData (m : MicrostepMode) : (latchSequence m s).readData = s.readData := by simp [latchSequence]
@[simp] theorem latchSequence_env (m : MicrostepMode) : (latchSequence m s).env = s.env := by simp [latchSequence]
@[simp] theorem latchSequence_clockStop (m : MicrostepMode) : (latchSequence m s).clockStop = s.clockStop := by simp [latchSequence]
@[simp] theorem latchSequence_observed (m : MicrostepMode) : (latchSequence m s).observed = s.observed := by simp [latchSequence]
@[simp] theorem latchSequence_hasPin (m : MicrostepMode) (p : Pin) : (latchSequence m s).hasPin p = s.hasPin p := by simp [State.hasPin]

@[simp] theorem standbyBody_params (b : Bool) : (standbyBody b s).params = s.params := by unfold standbyBody; split <;> [split; skip] <;> simp
@[simp] theorem standbyBody_pulseInterval (b : Bool) : (standbyBody b s).pulseInterval = s.pulseInterval := by unfold standbyBody; split <;> [split; skip] <;> simp
@[simp] theorem standbyBody_position (b : Bool) : (standbyBody b s).position = s.position := by unfold standbyBody; split <;> [split; skip] <;> simp
@[simp] theorem standbyBody_lastPulseTime (b : Bool) : (standbyBody b s).lastPulseTime = s.lastPulseTime := by unfold standbyBody; split <;> [split; skip] <;> simp
@[simp] theorem standbyBody_microstepMode (b : Bool) : (standbyBody b s).microstepMode = s.microstepMode := by unfold standbyBody; split <;> [split; skip] <;> simp
@[simp] theorem standbyBody_enabled (b : Bool) : (standbyBody b s).enabled = s.enabled := by unfold standbyBody; split <;> [split; skip] <;> simp
@[simp] theorem standbyBody_arg0 (b : Bool) : (standbyBody b s).arg0 = s.arg0 := by unfold standbyBody; split <;> [split; skip] <;> simp
@[simp] theorem standbyBody_arg1 (b : Bool) : (standbyBody b s).arg1 = s.arg1 := by unfold standbyBody; split <;> [split; skip] <;> simp
@[simp] theorem standbyBody_result (b : Bool) : (standbyBody b s).result = s.result := by unfold standbyBody; split <;> [split; skip] <;> simp
@[simp] theorem standbyBody_err (b : Bool) : (standbyBody b s).err = s.err := by unfold standbyBody; split <;> [split; skip] <;> simp
@[simp] theorem standbyBody_phase (b : Bool) : (standbyBody b s).phase = s.phase := by unfold standbyBody; split <;> [split; skip] <;> simp
@[simp] theorem standbyBody_faults (b : Bool) : (standbyBody b s).faults = s.faults := by unfold standbyBody; split <;> [split; skip] <;> simp
@[simp] theorem standbyBody_refusalMark (b : Bool) : (standbyBody b s).refusalMark = s.refusalMark := by unfold standbyBody; split <;> [split; skip] <;> simp
@[simp] theorem standbyBody_host (b : Bool) : (standbyBody b s).host = s.host := by unfold standbyBody; split <;> [split; skip] <;> simp
@[simp] theorem standbyBody_readData (b : Bool) : (standbyBody b s).readData = s.readData := by unfold standbyBody; split <;> [split; skip] <;> simp
@[simp] theorem standbyBody_env (b : Bool) : (standbyBody b s).env = s.env := by unfold standbyBody; split <;> [split; skip] <;> simp
@[simp] theorem standbyBody_clockStop (b : Bool) : (standbyBody b s).clockStop = s.clockStop := by unfold standbyBody; split <;> [split; skip] <;> simp
@[simp] theorem standbyBody_observed (b : Bool) : (standbyBody b s).observed = s.observed := by unfold standbyBody; split <;> [split; skip] <;> simp
@[simp] theorem standbyBody_hasPin (b : Bool) (p : Pin) : (standbyBody b s).hasPin p = s.hasPin p := by simp [State.hasPin]

@[simp] theorem pacedPulses_params (fwd : Bool) (n : Nat) : (pacedPulses fwd n s).params = s.params := by
  induction n generalizing s with
  | zero => rfl
  | succ n ih => simp [pacedPulses, ih]
@[simp] theorem pacedPulses_pulseInterval (fwd : Bool) (n : Nat) : (pacedPulses fwd n s).pulseInterval = s.pulseInterval := by
  induction n generalizing s with
  | zero => rfl
  | succ n ih => simp [pacedPulses, ih]
@[simp] theorem pacedPulses_microstepMode (fwd : Bool) (n : Nat) : (pacedPulses fwd n s).microstepMode = s.microstepMode := by
  induction n generalizing s with
  | zero => rfl
  | succ n ih => simp [pacedPulses, ih]
@[simp] theorem pacedPulses_enabled (fwd : Bool) (n : Nat) : (pacedPulses fwd n s).enabled = s.enabled := by
  induction n generalizing s with
  | zero => rfl
  | succ n ih => simp [pacedPulses, ih]
@[simp] theorem pacedPulses_arg0 (fwd : Bool) (n : Nat) : (pacedPulses fwd n s).arg0 = s.arg0 := by
  induction n generalizing s with
  | zero => rfl
  | succ n ih => simp [pacedPulses, ih]
@[simp] theorem pacedPulses_arg1 (fwd : Bool) (n : Nat) : (pacedPulses fwd n s).arg1 = s.arg1 := by
  induction n generalizing s with
  | zero => rfl
  | succ n ih => simp [pacedPulses, ih]
@[simp] theorem pacedPulses_result (fwd : Bool) (n : Nat) : (pacedPulses fwd n s).result = s.result := by
  induction n generalizing s with
  | zero => rfl
  | succ n ih => simp [pacedPulses, ih]
@[simp] theorem pacedPulses_err (fwd : Bool) (n : Nat) : (pacedPulses fwd n s).err = s.err := by
  induction n generalizing s with
  | zero => rfl
  | succ n ih => simp [pacedPulses, ih]
@[simp] theorem pacedPulses_phase (fwd : Bool) (n : Nat) : (pacedPulses fwd n s).phase = s.phase := by
  induction n generalizing s with
  | zero => rfl
  | succ n ih => simp [pacedPulses, ih]
@[simp] theorem pacedPulses_faults (fwd : Bool) (n : Nat) : (pacedPulses fwd n s).faults = s.faults := by
  induction n generalizing s with
  | zero => rfl
  | succ n ih => simp [pacedPulses, ih]
@[simp] theorem pacedPulses_refusalMark (fwd : Bool) (n : Nat) : (pacedPulses fwd n s).refusalMark = s.refusalMark := by
  induction n generalizing s with
  | zero => rfl
  | succ n ih => simp [pacedPulses, ih]
@[simp] theorem pacedPulses_host (fwd : Bool) (n : Nat) : (pacedPulses fwd n s).host = s.host := by
  induction n generalizing s with
  | zero => rfl
  | succ n ih => simp [pacedPulses, ih]
@[simp] theorem pacedPulses_readData (fwd : Bool) (n : Nat) : (pacedPulses fwd n s).readData = s.readData := by
  induction n generalizing s with
  | zero => rfl
  | succ n ih => simp [pacedPulses, ih]
@[simp] theorem pacedPulses_env (fwd : Bool) (n : Nat) : (pacedPulses fwd n s).env = s.env := by
  induction n generalizing s with
  | zero => rfl
  | succ n ih => simp [pacedPulses, ih]
@[simp] theorem pacedPulses_clockStop (fwd : Bool) (n : Nat) : (pacedPulses fwd n s).clockStop = s.clockStop := by
  induction n generalizing s with
  | zero => rfl
  | succ n ih => simp [pacedPulses, ih]
@[simp] theorem pacedPulses_observed (fwd : Bool) (n : Nat) : (pacedPulses fwd n s).observed = s.observed := by
  induction n generalizing s with
  | zero => rfl
  | succ n ih => simp [pacedPulses, ih]
@[simp] theorem pacedPulses_hasPin (fwd : Bool) (n : Nat) (p : Pin) : (pacedPulses fwd n s).hasPin p = s.hasPin p := by
  simp [State.hasPin]

@[simp] theorem fixedPulses_params (w : Nat) (n : Nat) : (fixedPulses w n s).params = s.params := by
  induction n generalizing s with
  | zero => rfl
  | succ n ih => simp [fixedPulses, ih]
@[simp] theorem fixedPulses_pulseInterval (w : Nat) (n : Nat) : (fixedPulses w n s).pulseInterval = s.pulseInterval := by
  induction n generalizing s with
  | zero => rfl
  | succ n ih => simp [fixedPulses, ih]
@[simp] theorem fixedPulses_position (w : Nat) (n : Nat) : (fixedPulses w n s).position = s.position := by
  induction n generalizing s with
  | zero => rfl
  | succ n ih => simp [fixedPulses, ih]
@[simp] theorem fixedPulses_lastPulseTime (w : Nat) (n : Nat) : (fixedPulses w n s).lastPulseTime = s.lastPulseTime := by
  induction n generalizing s with
  | zero => rfl
  | succ n ih => simp [fixedPulses, ih]
@[simp] theorem fixedPulses_microstepMode (w : Nat) (n : Nat) : (fixedPulses w n s).microstepMode = s.microstepMode := by
  induction n generalizing s with
  | zero => rfl
  | succ n ih => simp [fixedPulses, ih]
@[simp] theorem fixedPulses_enabled (w : Nat) (n : Nat) : (fixedPulses w n s).enabled = s.enabled := by
  induction n generalizing s with
  | zero => rfl
  | succ n ih => simp [fixedPulses, ih]
@[simp] theorem fixedPulses_arg0 (w : Nat) (n : Nat) : (fixedPulses w n s).arg0 = s.arg0 := by
  induction n generalizing s with
  | zero => rfl
  | succ n ih => simp [fixedPulses, ih]
@[simp] theorem fixedPulses_arg1 (w : Nat) (n : Nat) : (fixedPulses w n s).arg1 = s.arg1 := by
  induction n generalizing s with
  | zero => rfl
  | succ n ih => simp [fixedPulses, ih]
@[simp] theorem fixedPulses_result (w : Nat) (n : Nat) : (fixedPulses w n s).result = s.result := by
  induction n generalizing s with
  | zero => rfl
  | succ n ih => simp [fixedPulses, ih]
@[simp] theorem fixedPulses_err (w : Nat) (n : Nat) : (fixedPulses w n s).err = s.err := by
  induction n generalizing s with
  | zero => rfl
  | succ n ih => simp [fixedPulses, ih]
@[simp] theorem fixedPulses_phase (w : Nat) (n : Nat) : (fixedPulses w n s).phase = s.phase := by
  induction n generalizing s with
  | zero => rfl
  | succ n ih => simp [fixedPulses, ih]
@[simp] theorem fixedPulses_faults (w : Nat) (n : Nat) : (fixedPulses w n s).faults = s.faults := by
  induction n generalizing s with
  | zero => rfl
  | succ n ih => simp [fixedPulses, ih]
@[simp] theorem fixedPulses_refusalMark (w : Nat) (n : Nat) : (fixedPulses w n s).refusalMark = s.refusalMark := by
  induction n generalizing s with
  | zero => rfl
  | succ n ih => simp [fixedPulses, ih]
@[simp] theorem fixedPulses_host (w : Nat) (n : Nat) : (fixedPulses w n s).host = s.host := by
  induction n generalizing s with
  | zero => rfl
  | succ n ih => simp [fixedPulses, ih]
@[simp] theorem fixedPulses_readData (w : Nat) (n : Nat) : (fixedPulses w n s).readData = s.readData := by
  induction n generalizing s with
  | zero => rfl
  | succ n ih => simp [fixedPulses, ih]
@[simp] theorem fixedPulses_env (w : Nat) (n : Nat) : (fixedPulses w n s).env = s.env := by
  induction n generalizing s with
  | zero => rfl
  | succ n ih => simp [fixedPulses, ih]
@[simp] theorem fixedPulses_clockStop (w : Nat) (n : Nat) : (fixedPulses w n s).clockStop = s.clockStop := by
  induction n generalizing s with
  | zero => rfl
  | succ n ih => simp [fixedPulses, ih]
@[simp] theorem fixedPulses_observed (w : Nat) (n : Nat) : (fixedPulses w n s).observed = s.observed := by
  induction n generalizing s with
  | zero => rfl
  | succ n ih => simp [fixedPulses, ih]
@[simp] theorem fixedPulses_hasPin (w : Nat) (n : Nat) (p : Pin) : (fixedPulses w n s).hasPin p = s.hasPin p := by
  simp [State.hasPin]

@[simp] theorem sampleClock_clock : (sampleClock s).clock = nextClock s := rfl
@[simp] theorem sampleClock_lull :
    (sampleClock s).lull = if s.lull = 0 then Config.lull s.env s.draws else s.lull - 1 := rfl
@[simp] theorem sampleClock_draws : (sampleClock s).draws = s.draws + 1 := rfl
@[simp] theorem waitUntil_clock (bound : Nat) :
    (waitUntil bound s).clock = max (nextClock s) bound := rfl
@[simp] theorem waitUntil_draws (bound : Nat) : (waitUntil bound s).draws = s.draws + 1 := rfl
@[simp] theorem delayUs_draws (n : Nat) : (delayUs n s).draws = s.draws + 1 := rfl
@[simp] theorem recordEvent_trace (pin : Pin) (what : PinAction) :
    (recordEvent pin what s).trace = s.trace ++ [⟨s.clock, pin, what⟩] := rfl
@[simp] theorem complete_result (v : Word) : (complete v s).result = v := rfl
@[simp] theorem complete_err (v : Word) : (complete v s).err = .none := rfl
@[simp] theorem complete_phase (v : Word) : (complete v s).phase = .idle := rfl
@[simp] theorem raiseErr_result (code : ErrCode) : (raiseErr code s).result = 0#32 := rfl
@[simp] theorem raiseErr_err (code : ErrCode) : (raiseErr code s).err = code := rfl
@[simp] theorem raiseErr_phase (code : ErrCode) : (raiseErr code s).phase = .idle := rfl
@[simp] theorem finish_err : (finish s).err = .none := rfl
@[simp] theorem finish_phase : (finish s).phase = .idle := rfl
@[simp] theorem runAt_phase (c : Instr) (point : Nat) (l : Locals) : (runAt c point l s).phase = .run c point l := rfl

end Sys2Proof.Machine
end

