-- ==== Sys2Proof/Laws/Ops.lean ====
section
/-! SUPPORT. One lemma per shared operation that says everything it can do to the time, the trace and the pins; callers
cite it and never unfold the operation. -/

namespace Sys2Proof.Machine

/-! ## `Emits`: the order and the time of pin events -/

theorem Emits.clock_le {s t : State} {a : List (Pin × PinAction)} (h : Emits s t a) : s.clock ≤ t.clock := h.1

theorem Emits.refl (s : State) : Emits s s [] := ⟨le_refl _, [], by simp⟩

/-- A change that leaves the trace and does not turn the clock back emits nothing. -/
theorem Emits.of_trace_eq {s t : State} (hc : s.clock ≤ t.clock) (ht : t.trace = s.trace) : Emits s t [] :=
  ⟨hc, [], by simp [ht]⟩

theorem Emits.trans {s t u : State} {a b : List (Pin × PinAction)} (h : Emits s t a) (k : Emits t u b) :
    Emits s u (a ++ b) := by
  obtain ⟨hc, es, he, hsh, hpw, hin⟩ := h
  obtain ⟨kc, fs, kf, ksh, kpw, kin⟩ := k
  refine ⟨hc.trans kc, es ++ fs, by simp [kf, he], by simp [hsh, ksh], ?_, ?_⟩
  · exact List.pairwise_append.2 ⟨hpw, kpw, fun e he f hf => (hin e he).2.trans (kin f hf).1⟩
  · intro e he
    rcases List.mem_append.1 he with h | h
    · exact ⟨(hin e h).1, (hin e h).2.trans kc⟩
    · exact ⟨hc.trans (kin e h).1, (kin e h).2⟩

/-- What comes before may be replaced by a state with the same clock and trace. -/
theorem Emits.congr_left {s s' t : State} {a : List (Pin × PinAction)} (h : Emits s t a) (hc : s'.clock = s.clock)
    (ht : s'.trace = s.trace) : Emits s' t a := by
  unfold Emits at *; rw [hc, ht]; exact h

/-- What comes after may be replaced by a state with the same clock and trace. -/
theorem Emits.congr_right {s t t' : State} {a : List (Pin × PinAction)} (h : Emits s t a) (hc : t'.clock = t.clock)
    (ht : t'.trace = t.trace) : Emits s t' a := by
  unfold Emits at *; rw [hc, ht]; exact h

/-! ## The clock -/

/-- A sample is no earlier than the last (R15). -/
@[simp] theorem clock_le_nextClock (s : State) : s.clock ≤ nextClock s := by
  unfold nextClock; dsimp only; split <;> [split; skip] <;> omega

/-- No sample is later than where a faulty clock stops (R229). -/
theorem nextClock_le_stop {s : State} {stop : Nat} (h : s.clockStop = some stop) (hc : s.clock ≤ stop) :
    nextClock s ≤ stop := by
  simp only [nextClock, h]; omega

/-- A sample of a clock that goes on moves it, or brings its next movement nearer (R237). -/
theorem nextClock_goes_on {s : State} (h : s.clockStop = none) :
    (s.lull = 0 ∧ s.clock < nextClock s) ∨ (nextClock s = s.clock ∧ (sampleClock s).lull < s.lull) := by
  by_cases hl : s.lull = 0
  · exact .inl ⟨hl, by simp only [nextClock, h, hl, if_true]; omega⟩
  · exact .inr ⟨by simp [nextClock, h, hl], by simp only [sampleClock_lull, hl, if_false]; omega⟩

/-! ## The primitives -/

theorem sampleClock_emits (s : State) : Emits s (sampleClock s) [] := Emits.of_trace_eq (by simp) (by simp)

theorem waitUntil_emits (b : Nat) (s : State) : Emits s (waitUntil b s) [] :=
  Emits.of_trace_eq ((clock_le_nextClock s).trans (le_max_left _ _)) (by simp)

theorem waitUntil_bound_le (b : Nat) (s : State) : b ≤ (waitUntil b s).clock := le_max_right _ _

theorem delayUs_emits (n : Nat) (s : State) : Emits s (delayUs n s) [] := waitUntil_emits _ s

theorem delayUs_clock_le (n : Nat) (s : State) : s.clock + n ≤ (delayUs n s).clock := waitUntil_bound_le _ s

theorem waitPace_emits (s : State) : Emits s (waitPace s) [] := waitUntil_emits _ s

theorem waitPace_clock_le (s : State) : s.lastPulseTime + s.pulseInterval.toNat ≤ (waitPace s).clock :=
  waitUntil_bound_le _ s

/-- Where the pin is absent, a `PinWrite` is nothing (R14). -/
theorem pinWrite_absent {o : OutPin} {s : State} (h : s.hasPin o.pin = false) (v : Bool) : pinWrite o v s = s := by
  simp [pinWrite, h]

/-- Where the pin is present, a `PinWrite` sets its level and appends one event at the clock after it (R14). -/
theorem pinWrite_present {o : OutPin} {s : State} (h : s.hasPin o.pin = true) (v : Bool) :
    (pinWrite o v s).trace = s.trace ++ [⟨(pinWrite o v s).clock, o.pin, .drive v⟩]
      ∧ (pinWrite o v s).pins = s.pins.setLevel o v ∧ s.clock ≤ (pinWrite o v s).clock := by
  simp [pinWrite, h, recordEvent]

/-- The events of a `PinWrite`: one, or none where the pin is absent. -/
theorem pinWrite_emits (o : OutPin) (v : Bool) (s : State) :
    Emits s (pinWrite o v s) (if s.hasPin o.pin then [(o.pin, .drive v)] else []) := by
  cases h : s.hasPin o.pin with
  | false => rw [pinWrite_absent h]; exact Emits.refl s
  | true =>
    obtain ⟨ht, -, hc⟩ := pinWrite_present h v
    exact ⟨hc, [⟨(pinWrite o v s).clock, o.pin, .drive v⟩], ht, by simp [PinEvent.shape], by simp, by simp [hc]⟩

theorem pinWrite_pins (o : OutPin) (v : Bool) (s : State) :
    (pinWrite o v s).pins = if s.hasPin o.pin then s.pins.setLevel o v else s.pins := by
  cases h : s.hasPin o.pin with
  | false => simp [pinWrite_absent h]
  | true => simp [(pinWrite_present h v).2.1]

/-- `PinCfgOutLow(EN)` with EN present: one event (R14). -/
theorem pinCfgOutLow_present {s : State} (h : s.hasPin .en = true) :
    pinCfgOutLow s
      = { sampleClock s with
          pins := { s.pins with en := .outLow }
          trace := s.trace ++ [⟨nextClock s, .en, .cfgOutLow⟩] } := by
  simp [pinCfgOutLow, h, recordEvent]

/-- `PinCfgInPullup(EN)` with EN present: one event (R14). -/
theorem pinCfgInPullup_present {s : State} (h : s.hasPin .en = true) :
    pinCfgInPullup s
      = { sampleClock s with
          pins := { s.pins with en := .inPullup }
          trace := s.trace ++ [⟨nextClock s, .en, .cfgInPullup⟩] } := by
  simp [pinCfgInPullup, h, recordEvent]

theorem pinCfgOutLow_emits (s : State) :
    Emits s (pinCfgOutLow s) (if s.hasPin .en then [(.en, .cfgOutLow)] else []) := by
  cases h : s.hasPin .en with
  | false => simpa [pinCfgOutLow, h] using Emits.refl s
  | true =>
    rw [pinCfgOutLow_present h]
    exact ⟨by simp, [⟨nextClock s, .en, .cfgOutLow⟩], by simp [PinEvent.shape]⟩

theorem pinCfgInPullup_emits (s : State) :
    Emits s (pinCfgInPullup s) (if s.hasPin .en then [(.en, .cfgInPullup)] else []) := by
  cases h : s.hasPin .en with
  | false => simpa [pinCfgInPullup, h] using Emits.refl s
  | true =>
    rw [pinCfgInPullup_present h]
    exact ⟨by simp, [⟨nextClock s, .en, .cfgInPullup⟩], by simp [PinEvent.shape]⟩

/-! ## The pulse and the loops -/

/-- The two writes of one pulse (R143). -/
def pulseShape (s : State) : List (Pin × PinAction) :=
  if s.hasPin .step then [(.step, .drive false), (.step, .drive true)] else []

theorem pulse_emits (s : State) : Emits s (pulse s) (pulseShape s) := by
  have h := ((pinWrite_emits .step false s).trans (delayUs_emits s.params.pulseWidthUs _)).trans
    (pinWrite_emits .step true (delayUs s.params.pulseWidthUs (pinWrite .step false s)))
  simp only [delayUs_hasPin, pinWrite_hasPin, OutPin.pin] at h
  unfold pulse pulseShape
  split <;> simp_all

theorem pulse_pins (s : State) :
    (pulse s).pins = if s.hasPin .step then { s.pins with step := true } else s.pins := by
  simp only [pulse, pinWrite_pins, delayUs_pins, delayUs_hasPin, pinWrite_hasPin, OutPin.pin]
  by_cases h : s.hasPin .step = true <;> simp [h, Pins.setLevel]

/-- A pulse lasts at least PULSE_WIDTH_US, whether or not STEP is present (R143, R146). -/
theorem pulse_clock_le (s : State) : s.clock + s.params.pulseWidthUs ≤ (pulse s).clock := by
  have h1 := (pinWrite_emits .step false s).clock_le
  have h2 := delayUs_clock_le s.params.pulseWidthUs (pinWrite .step false s)
  have h3 := (pinWrite_emits .step true (delayUs s.params.pulseWidthUs (pinWrite .step false s))).clock_le
  unfold pulse; omega

@[simp] theorem advance_pacedPulse_clock (fwd : Bool) (s : State) :
    (pacedPulse fwd s).clock = (pulse (waitPace s)).clock := by simp [pacedPulse]

@[simp] theorem pacedPulse_lastPulseTime (fwd : Bool) (s : State) :
    (pacedPulse fwd s).lastPulseTime = (waitPace s).clock := rfl

@[simp] theorem pacedPulse_pins (fwd : Bool) (s : State) :
    (pacedPulse fwd s).pins = if s.hasPin .step then { s.pins with step := true } else s.pins := by
  simp [pacedPulse, pulse_pins]

theorem pacedPulse_position (fwd : Bool) (s : State) : (pacedPulse fwd s).position = (advance fwd s).position := by
  cases fwd <;> simp [pacedPulse, advance]

theorem pacedPulse_emits (fwd : Bool) (s : State) : Emits s (pacedPulse fwd s) (pulseShape s) := by
  have h := (waitPace_emits s).trans (pulse_emits (waitPace s))
  have hs : pulseShape (waitPace s) = pulseShape s := by simp [pulseShape]
  rw [hs, List.nil_append] at h
  exact h.congr_right (by simp) (by simp [pacedPulse])

theorem pacedPulses_emits (fwd : Bool) (n : Nat) (s : State) :
    Emits s (pacedPulses fwd n s) (List.replicate n (pulseShape s)).flatten := by
  induction n generalizing s with
  | zero => simpa [pacedPulses] using Emits.refl s
  | succ n ih =>
    have h := (pacedPulse_emits fwd s).trans (ih (pacedPulse fwd s))
    have hs : pulseShape (pacedPulse fwd s) = pulseShape s := by simp [pulseShape]
    rw [hs] at h
    simpa [pacedPulses, List.replicate_succ] using h

theorem pacedPulses_pins (fwd : Bool) (n : Nat) (s : State) :
    (pacedPulses fwd n s).pins
      = if s.hasPin .step ∧ n ≠ 0 then { s.pins with step := true } else s.pins := by
  induction n generalizing s with
  | zero => simp [pacedPulses]
  | succ n ih =>
    rw [pacedPulses, ih]
    by_cases h : s.hasPin .step = true <;> simp [h]

theorem fixedPulse_emits (w : Nat) (s : State) : Emits s (fixedPulse w s) (pulseShape s) := by
  simpa [fixedPulse] using (pulse_emits s).trans (delayUs_emits w (pulse s))

theorem fixedPulse_pins (w : Nat) (s : State) :
    (fixedPulse w s).pins = if s.hasPin .step then { s.pins with step := true } else s.pins := by
  simp [fixedPulse, pulse_pins]

theorem fixedPulse_clock_le (w : Nat) (s : State) :
    s.clock + s.params.pulseWidthUs + w ≤ (fixedPulse w s).clock := by
  have h1 := pulse_clock_le s
  have h2 := delayUs_clock_le w (pulse s)
  unfold fixedPulse; omega

theorem fixedPulses_emits (w n : Nat) (s : State) :
    Emits s (fixedPulses w n s) (List.replicate n (pulseShape s)).flatten := by
  induction n generalizing s with
  | zero => simpa [fixedPulses] using Emits.refl s
  | succ n ih =>
    have h := (fixedPulse_emits w s).trans (ih (fixedPulse w s))
    have hs : pulseShape (fixedPulse w s) = pulseShape s := by simp [pulseShape]
    rw [hs] at h
    simpa [fixedPulses, List.replicate_succ] using h

theorem fixedPulses_pins (w n : Nat) (s : State) :
    (fixedPulses w n s).pins = if s.hasPin .step ∧ n ≠ 0 then { s.pins with step := true } else s.pins := by
  induction n generalizing s with
  | zero => simp [fixedPulses]
  | succ n ih =>
    rw [fixedPulses, ih]
    by_cases h : s.hasPin .step = true <;> simp [fixedPulse_pins, h]

/-! ## The latch sequence and the standby body -/

/-- The four code lines, those of absent pins left out. -/
def codeShape (p : Params) (code : BitVec 4) : List (Pin × PinAction) :=
  [(Pin.ms1, PinAction.drive (code.getLsbD 0)), (.ms2, .drive (code.getLsbD 1)), (.step, .drive (code.getLsbD 2)),
   (.dir, .drive (code.getLsbD 3))].filter fun e => p.present.has e.1

theorem driveCode_emits (code : BitVec 4) (s : State) : Emits s (driveCode code s) (codeShape s.params code) := by
  have h := (((pinWrite_emits .ms1 (code.getLsbD 0) s).trans (pinWrite_emits .ms2 (code.getLsbD 1) _)).trans
    (pinWrite_emits .step (code.getLsbD 2) _)).trans (pinWrite_emits .dir (code.getLsbD 3) _)
  simp only [pinWrite_hasPin, OutPin.pin] at h
  unfold driveCode codeShape
  convert h using 1
  simp only [State.hasPin, List.filter_cons, List.filter_nil]
  by_cases h0 : s.params.present.has .ms1 = true <;>
    by_cases h1 : s.params.present.has .ms2 = true <;>
    by_cases h2 : s.params.present.has .step = true <;>
    by_cases h3 : s.params.present.has .dir = true <;>
    simp [h0, h1, h2, h3]

theorem latchSequence_pins (m : MicrostepMode) (s : State) :
    (latchSequence m s).pins = latchedPins s.params.present (s.params.latch.code m) s.pins := by
  simp only [latchSequence, driveCode, pinWrite_pins, delayUs_pins, State.hasPin, OutPin.pin,
    Present.has, latchedPins, Pins.setLevel]
  by_cases h0 : s.params.present.ms1 = true <;>
    by_cases h1 : s.params.present.ms2 = true <;>
    by_cases h2 : s.params.present.step = true <;>
    by_cases h3 : s.params.present.dir = true <;>
    by_cases h4 : s.params.present.stby = true <;>
    simp [h0, h1, h2, h3, h4]

/-- The latch sequence with STBY present (R177): STBY low, then, at least SETTLE_US later, the code lines in order and
STBY high. -/
theorem latchSequence_emits (m : MicrostepMode) (s : State) (h : s.hasPin .stby = true) :
    ∃ (low : PinEvent) (rest : List PinEvent),
      (latchSequence m s).trace = s.trace ++ low :: rest
        ∧ low.shape = (.stby, .drive false)
        ∧ rest.map PinEvent.shape = codeShape s.params (s.params.latch.code m) ++ [(.stby, .drive true)]
        ∧ s.clock ≤ low.time ∧ low.time + Config.settleUs ≤ (latchSequence m s).clock
        ∧ (rest.Pairwise fun e f => e.time ≤ f.time)
        ∧ ∀ e ∈ rest, low.time + Config.settleUs ≤ e.time ∧ e.time ≤ (latchSequence m s).clock := by
  obtain ⟨ht, -, hc⟩ := pinWrite_present (o := .stby) (s := s) h false
  have hd := delayUs_clock_le Config.settleUs (pinWrite .stby false s)
  have h2 := (driveCode_emits (s.params.latch.code m) (delayUs Config.settleUs (pinWrite .stby false s))).trans
    (pinWrite_emits .stby true (driveCode (s.params.latch.code m)
      (delayUs Config.settleUs (pinWrite .stby false s))))
  simp only [driveCode_hasPin, delayUs_hasPin, pinWrite_hasPin, OutPin.pin, h, if_true, delayUs_params,
    pinWrite_params] at h2
  obtain ⟨kc, es, he, hsh, hpw, hin⟩ := h2
  refine ⟨⟨(pinWrite .stby false s).clock, .stby, .drive false⟩, es, ?_, rfl, hsh, hc, ?_, hpw, ?_⟩
  · unfold latchSequence; rw [he, delayUs_trace, ht]; simp [OutPin.pin]
  · exact hd.trans kc
  · exact fun e hm => ⟨hd.trans (hin e hm).1, (hin e hm).2⟩

theorem latchSequence_emits_shape (m : MicrostepMode) (s : State) :
    Emits s (latchSequence m s) (latchShape s.params (s.params.latch.code m)) := by
  have h := (((pinWrite_emits .stby false s).trans (delayUs_emits Config.settleUs _)).trans
    (driveCode_emits (s.params.latch.code m) _)).trans (pinWrite_emits .stby true _)
  simp only [driveCode_hasPin, delayUs_hasPin, pinWrite_hasPin, delayUs_params, pinWrite_params, OutPin.pin] at h
  unfold latchSequence
  convert h using 1
  simp only [latchShape, codeShape, State.hasPin, List.filter_cons, List.filter_nil]
  by_cases h0 : s.params.present.has .ms1 = true <;>
    by_cases h1 : s.params.present.has .ms2 = true <;>
    by_cases h2 : s.params.present.has .step = true <;>
    by_cases h3 : s.params.present.has .dir = true <;>
    by_cases h4 : s.params.present.has .stby = true <;>
    simp [h0, h1, h2, h3, h4]

/-- What a standby body emits (R196). -/
def standbyShape (s : State) (b : Bool) : List (Pin × PinAction) :=
  if s.hasPin .stby then
    (if b then [(.stby, .drive false)] else latchShape s.params (s.params.latch.code s.microstepMode))
  else []

theorem standbyBody_emits (b : Bool) (s : State) : Emits s (standbyBody b s) (standbyShape s b) := by
  unfold standbyBody standbyShape
  cases h : s.hasPin .stby with
  | false => exact Emits.refl s
  | true =>
    cases b with
    | false => exact latchSequence_emits_shape _ s
    | true => simpa [h, OutPin.pin] using pinWrite_emits .stby false s

end Sys2Proof.Machine
end

