-- ==== Sys2Proof/Laws/Word.lean ====
section
/-! SUPPORT. The fields of a CMD word, read back from the word that is built from them (R90). -/

namespace Sys2Proof

theorem cmdOpc_wordOf (op : BitVec 8) (m : BitVec 4) (b : Bool) : cmdOpc (wordOf op m b) = op := by
  ext i h
  have h1 : i < 12 := by omega
  simp [cmdOpc, wordOf, h, h1]
  omega

theorem cmdMode_wordOf (op : BitVec 8) (m : BitVec 4) (b : Bool) : cmdMode (wordOf op m b) = m := by
  ext i h
  have h1 : 8 + i < 12 := by omega
  have h2 : 8 + i < 32 := by omega
  simp [cmdMode, wordOf, h, h1, h2]

theorem cmdBool_wordOf (op : BitVec 8) (m : BitVec 4) (b : Bool) : cmdBool (wordOf op m b) = b := by
  simp [cmdBool, wordOf]

theorem cmdReserved_wordOf (op : BitVec 8) (m : BitVec 4) (b : Bool) : cmdReserved (wordOf op m b) = 0#19 := by
  ext i h
  have h1 : op.getLsbD (13 + i) = false := BitVec.getLsbD_of_ge _ _ (by omega)
  have h2 : m.getLsbD (13 + i - 8) = false := BitVec.getLsbD_of_ge _ _ (by omega)
  have h3 : ¬13 + i - 12 = 0 := by omega
  simp [cmdReserved, wordOf, h1, h2, h3]

/-- A word whose RSV is 0 is built from its three other fields (R90). -/
theorem wordOf_fields (w : Word) (h : cmdReserved w = 0#19) : wordOf (cmdOpc w) (cmdMode w) (cmdBool w) = w := by
  have high : ∀ j, 13 ≤ j → j < 32 → w.getLsbD j = false := by
    intro j h1 h2
    have hj := congrArg (fun v => v.getLsbD (j - 13)) h
    have e : 13 + (j - 13) = j := by omega
    simp only [cmdReserved, BitVec.getLsbD_extractLsb', e, BitVec.getLsbD_zero, Bool.and_eq_false_iff,
      decide_eq_false_iff_not] at hj
    exact hj.resolve_left (by omega)
  ext i hi
  rw [← BitVec.getLsbD_eq_getElem, ← BitVec.getLsbD_eq_getElem]
  by_cases a : i < 8
  · have b : i < 12 := by omega
    simp [wordOf, cmdOpc, cmdMode, cmdBool, a, b, hi]
  · by_cases b : i < 12
    · have h8 : i - 8 < 4 := by omega
      have e : 8 + (i - 8) = i := by omega
      simp [wordOf, cmdOpc, cmdMode, cmdBool, a, b, h8, e, hi]
    · by_cases c : i = 12
      · subst c; simp [wordOf, cmdOpc, cmdMode, cmdBool]
      · have h8 : ¬i - 8 < 4 := by omega
        have h12 : ¬i - 12 = 0 := by omega
        rw [high i (by omega) hi]
        simp [wordOf, cmdOpc, cmdMode, cmdBool, a, h8, h12]

/-! The lookups of the decoder, read both ways. -/

@[simp] theorem Opcode.ofBits?_bits (op : Opcode) : Opcode.ofBits? op.bits = some op := by cases op <;> decide

theorem Opcode.bits_of_ofBits? {b : BitVec 8} {op : Opcode} (h : Opcode.ofBits? b = some op) : b = op.bits :=
  (beq_iff_eq.1 (List.find?_some h :)).symm

theorem Opcode.ofBits?_eq_none {b : BitVec 8} :
    Opcode.ofBits? b = none
      ↔ b ∉ ([0x01, 0x02, 0x10, 0x11, 0x20, 0x30, 0x31, 0x32, 0x33, 0x34, 0x35] : List (BitVec 8)) := by
  revert b; decide

@[simp] theorem MicrostepMode.ofCode?_code (m : MicrostepMode) : MicrostepMode.ofCode? m.code = some m := by
  cases m <;> decide

theorem MicrostepMode.code_of_ofCode? {k : BitVec 4} {m : MicrostepMode} (h : MicrostepMode.ofCode? k = some m) :
    k = m.code :=
  (beq_iff_eq.1 (List.find?_some h :)).symm

theorem MicrostepMode.ofCode?_eq_none {k : BitVec 4} : MicrostepMode.ofCode? k = none ↔ 8 < k.toNat := by
  revert k; decide

/-! The CMD words of R103. -/

theorem cmdWord_setSpeed (rpm : Word) : (Instr.setSpeed rpm).cmdWord = 0x00000001#32 := by
  change wordOf 0x01#8 0#4 false = _; decide

theorem cmdWord_msps (m : MicrostepMode) : (Instr.msps m).cmdWord = 0x00000002#32 ||| (m.code.setWidth 32 <<< 8) := by
  cases m <;> rfl

theorem cmdWord_step (count : Word) : (Instr.step count).cmdWord = 0x00000010#32 := by
  change wordOf 0x10#8 0#4 false = _; decide

theorem cmdWord_stepFixed (count interval : Word) : (Instr.stepFixed count interval).cmdWord = 0x00000011#32 := by
  change wordOf 0x11#8 0#4 false = _; decide

theorem cmdWord_setMode (m : MicrostepMode) :
    (Instr.setMode m).cmdWord = 0x00000020#32 ||| (m.code.setWidth 32 <<< 8) := by
  cases m <;> rfl

theorem cmdWord_enable (b : Bool) : (Instr.enable b).cmdWord = if b then 0x00001030#32 else 0x00000030#32 := by
  cases b <;> rfl

theorem cmdWord_isEnabled : Instr.isEnabled.cmdWord = 0x00000031#32 := by decide

theorem cmdWord_isFault : Instr.isFault.cmdWord = 0x00000032#32 := by decide

theorem cmdWord_clearFault : Instr.clearFault.cmdWord = 0x00000033#32 := by decide

theorem cmdWord_standby (b : Bool) : (Instr.standby b).cmdWord = if b then 0x00001034#32 else 0x00000034#32 := by
  cases b <;> rfl

theorem cmdWord_reset : Instr.reset.cmdWord = 0x00000035#32 := by decide

end Sys2Proof
end

