-- ==== Sys2Proof/Laws/PerInstr.lean ====
section
/-! SUPPORT. Statements made once per instruction. `CmdLayout`: the CMD word of a command has its opcode, its MODE and B
operands and no reserved bit in the fields of R90, whatever its operands are. -/

namespace Sys2Proof.Laws.CmdLayout

/-- The four fields of R90, read back from the word an instruction encodes to. -/
def Statement (i : Instr) : Prop :=
  cmdOpc i.cmdWord = i.opcode.bits ∧ cmdMode i.cmdWord = i.modeField ∧ cmdBool i.cmdWord = i.boolField
    ∧ cmdReserved i.cmdWord = 0#19

/-- The fields of any word that `wordOf` builds. -/
theorem of_wordOf (i : Instr) : Statement i :=
  ⟨cmdOpc_wordOf _ _ _, cmdMode_wordOf _ _ _, cmdBool_wordOf _ _ _, cmdReserved_wordOf _ _ _⟩

theorem setSpeed (rpm : Word) : Statement (.setSpeed rpm) := of_wordOf _

theorem msps (mode : MicrostepMode) : Statement (.msps mode) := of_wordOf _

theorem step (count : Word) : Statement (.step count) := of_wordOf _

theorem stepFixed (count interval : Word) : Statement (.stepFixed count interval) := of_wordOf _

theorem setMode (mode : MicrostepMode) : Statement (.setMode mode) := of_wordOf _

theorem enable (b : Bool) : Statement (.enable b) := of_wordOf _

theorem isEnabled : Statement .isEnabled := of_wordOf _

theorem isFault : Statement .isFault := of_wordOf _

theorem clearFault : Statement .clearFault := of_wordOf _

theorem standby (b : Bool) : Statement (.standby b) := of_wordOf _

theorem reset : Statement .reset := of_wordOf _

end Sys2Proof.Laws.CmdLayout
end

