-- ==== Sys2Proof/Laws/Step.lean ====
section
/-! SUPPORT. What a command, a move of the block, a host access and a step can do, each said once: the fields none of
them but the host's accesses can change, and the cases a step falls into. -/

namespace Sys2Proof.Machine

/-- What no command and no move of the block changes: the parameters, the ARG registers, the model's bookkeeping of faults
and refusals, which environment and which clock there is, and the host's turns, data and observation. -/
structure Kept (s t : State) : Prop where
  params : t.params = s.params
  arg0 : t.arg0 = s.arg0
  arg1 : t.arg1 = s.arg1
  faults : t.faults = s.faults
  mark : t.refusalMark = s.refusalMark
  host : t.host = s.host
  data : t.readData = s.readData
  env : t.env = s.env
  clockStop : t.clockStop = s.clockStop
  observed : t.observed = s.observed

/-- Every command keeps what is `Kept` and ends IDLE. -/
theorem exec_kept {i : Instr} {s t : State} (h : exec i s = .next t) : Kept s t ∧ t.phase = .idle := by
  cases i <;> (injection h with h; subst h)
  case step c => split <;> (refine ⟨by constructor <;> simp, by simp⟩)
  case stepFixed c => split <;> (refine ⟨by constructor <;> simp, by simp⟩)
  case setMode c => split <;> (refine ⟨by constructor <;> simp, by simp⟩)
  case enable b => split <;> cases b <;> (refine ⟨by constructor <;> simp, by simp⟩)
  case isFault => split <;> (refine ⟨by constructor <;> simp, by simp⟩)
  case clearFault => split <;> (refine ⟨by constructor <;> simp, by simp⟩)
  all_goals (refine ⟨by constructor <;> simp, by simp⟩)

theorem perform_kept (c : Instr) (point : Nat) (l : Locals) (s : State) (p : Prim) :
    Kept s (perform c point l s p) := by
  cases p <;> simp only [perform]
  case delay us => split <;> [skip; split] <;> constructor <;> simp
  case waitPace => split <;> constructor <;> simp
  all_goals (constructor <;> simp)

theorem blockMove_kept (s : State) : Kept s (blockMove s) := by
  unfold blockMove
  split
  · constructor <;> simp [passTime]
  · split <;> constructor <;> simp
  · split
    · constructor <;> simp
    · exact perform_kept _ _ _ _ _

theorem blockStep_kept {s t : State} (h : blockStep s = .next t) : Kept s t := by
  unfold blockStep at h
  split at h
  · injection h with h; subst h; constructor <;> simp [passTime]
  · split at h
    · split at h
      · exact (exec_kept h).1
      · injection h with h; subst h; exact blockMove_kept s
    · injection h with h; subst h; constructor <;> simp
  · injection h with h; subst h; exact blockMove_kept s

/-- A step is the block's, or one of the three turns of the host. -/
theorem step_cases {s t : State} (h : step s = .next t) :
    blockStep s = .next t
      ∨ (∃ a rest, s.host = .access a :: rest ∧ t = hostAccess a { s with host := rest })
      ∨ (∃ rest, s.host = .yield :: rest ∧ t = blockMove { s with host := rest })
      ∨ (∃ rest, s.host = .poll :: rest ∧ s.busy = false
        ∧ t = { s with host := rest, readData := s.status, observed := true }) := by
  unfold step pollStep at h
  split at h
  · exact .inl h
  · injection h with h; exact .inr (.inl ⟨_, _, by assumption, h.symm⟩)
  · injection h with h; exact .inr (.inr (.inl ⟨_, by assumption, h.symm⟩))
  · split at h
    · exact .inl h
    · injection h with h; exact .inr (.inr (.inr ⟨_, by assumption, by simp_all, h.symm⟩))

/-- An access reaches a register only by 4 bytes at its offset (R72). -/
theorem accessReg?_some {offset bytes : Nat} {r : HostReg} (h : accessReg? offset bytes = some r) :
    bytes = 4 ∧ offset = r.offset := by
  unfold accessReg? at h
  split at h
  · have := List.find?_some h; simp at this; exact ⟨by simp_all, this.symm⟩
  · cases h

/-- Everything one host access can do (R72 to R77, R244). -/
theorem hostAccess_cases (a : Access) (s : State) :
    hostAccess a s = { s with refusalMark := true }
      ∨ (∃ v, hostAccess a s = { s with readData := v })
      ∨ (s.busy = false ∧ a = .read 0x10 4 ∧ hostAccess a s = { s with readData := s.status, observed := true })
      ∨ (∃ v, hostAccess a s = { s with readData := v, draws := s.draws + 1 })
      ∨ (s.busy = true ∧ (∃ o v, o ∈ [0x00, 0x04, 0x08] ∧ a = .write o 4 v)
        ∧ hostAccess a s = raiseFault .concurrentAccess s)
      ∨ (s.phase = .idle ∧ ∃ v,
        (a = .write 0 4 v ∧ hostAccess a s = { s with phase := .start v s.arg0 s.arg1, observed := false })
          ∨ (a = .write 4 4 v ∧ hostAccess a s = { s with arg0 := v })
          ∨ (a = .write 8 4 v ∧ hostAccess a s = { s with arg1 := v })) := by
  cases a with
  | read o n =>
    simp only [hostAccess, hostRead]
    cases hr : accessReg? o n with
    | none => exact .inl rfl
    | some r =>
      obtain ⟨rfl, rfl⟩ := accessReg?_some hr
      by_cases hs : r = .status ∧ s.busy = false
      · obtain ⟨rfl, hb⟩ := hs
        exact .inr (.inr (.inl ⟨hb, rfl, by simp [regValue?, hb]⟩))
      · have ho : (s.observed || (r == .status && !s.busy)) = s.observed := by simpa using fun h => by simp_all
        cases hv : regValue? r s with
        | some v => exact .inr (.inl ⟨v, by simp [ho, hv]⟩)
        | none => exact .inr (.inr (.inr (.inl ⟨Config.busyRead s.env s.draws, by simp [hv]⟩)))
  | write o n v =>
    simp only [hostAccess, hostWrite]
    cases hr : accessReg? o n with
    | none => exact .inl rfl
    | some r =>
      obtain ⟨rfl, rfl⟩ := accessReg?_some hr
      cases hw : r.writable with
      | false => exact .inl (by simp [hw, refuseAccess])
      | true =>
        by_cases hb : s.busy = true
        · refine .inr (.inr (.inr (.inr (.inl ⟨hb, ⟨_, _, ?_, rfl⟩, by simp [hw, hb]⟩))))
          cases r <;> simp_all [HostReg.writable, HostReg.offset]
        · have hp : s.phase = .idle := by simpa [State.busy] using hb
          refine .inr (.inr (.inr (.inr (.inr ⟨hp, v, ?_⟩))))
          cases r <;> simp_all [HostReg.writable, HostReg.offset, writeReg]

end Sys2Proof.Machine
end

