-- ==== Sys2Proof/Tests/Slice0.lean ====
section
/-! SUPPORT. The model's own tests: words written out from R90 and R103, ill-formed commands, and single steps on a small
state, with results from 95_test_vectors.md. Then, for each obligation with hypotheses, a witness that meets them. -/

namespace Sys2Proof.Tests

open Sys2Proof.Machine

/-! ## A small state -/

/-- All six pins present. -/
def allPins : Present := ⟨true, true, true, true, true, true⟩

/-- The block of 95_test_vectors.md: SPR 200 and these pins. Its latch codes and timing values are only examples. -/
def blockParams (present : Present) : Params :=
  { spr := 200
    present := present
    latch := ⟨0#4, 1#4, 2#4, 3#4, 13#4, 5#4, 6#4, 7#4, 8#4⟩
    pulseWidthUs := 1
    clearFaultLowUs := 1000
    fixedUnit := .microsecond
    base := 0x4000 }

/-- Values of reset for that block: the position given, the clock at 10 000, where the next sample finds it too. -/
def blockInit (position : Nat) : Init :=
  { pulseInterval := 7
    position := position
    lastPulseTime := 0
    enabled := false
    pins := ⟨false, true, false, false, false, .inPullup⟩
    clock := 10000
    clockStop := none
    lull := 1 }

/-- The block just after reset, with these pins and this position. -/
def block (present : Present) (position : Nat) : State := State.atReset (blockParams present) (blockInit position) 0

/-- The block with all pins, at position 198. -/
def full : State := block allPins 198

/-- A block with only STEP and DIR. -/
def bare : State := block ⟨true, true, false, false, false, false⟩ 42

/-- What a command leaves, seen through `f`. -/
def look {α : Type} (i : Instr) (s : State) (f : State → α) : Option α :=
  match exec i s with
  | .next t => some (f t)
  | .fault _ => none
  | .refused _ => none

/-- The state with a command latched and decoded at a point of its script. -/
def running (c : Instr) (point : Nat) (s : State) : State := { s with phase := .run c point (initialLocals c) }

/-- The state with a word latched. -/
def latched (w a0 a1 : Word) (s : State) : State := { s with arg0 := a0, arg1 := a1, phase := .start w a0 a1 }

/-! ## WellFormed refuses what no word spells (R92) -/

theorem test_wellFormed_step : (Instr.step 0x80000000#32).wellFormed = false := by decide
theorem test_wellFormed_stepFixed : (Instr.stepFixed 0x80000000#32 7#32).wellFormed = false := by decide
theorem test_wellFormed_limit : (Instr.step 0x80000001#32).wellFormed = true := by decide

/-! ## Decoding: a word of each command, its bits written out from R90's fields, RSV, B, MODE, OPC -/

theorem test_decode_setSpeed :
    decode 0b0000000000000000000_0_0000_00000001#32 60#32 0#32 = .ok (.setSpeed 60#32) := by decide
theorem test_decode_msps : decode 0b0000000000000000000_0_0100_00000010#32 0#32 0#32 = .ok (.msps .m16) := by decide
theorem test_decode_step :
    decode 0b0000000000000000000_0_0000_00010000#32 0x80000001#32 0#32 = .ok (.step 0x80000001#32) := by decide
theorem test_decode_stepFixed :
    decode 0b0000000000000000000_0_0000_00010001#32 5#32 100#32 = .ok (.stepFixed 5#32 100#32) := by decide
theorem test_decode_setMode :
    decode 0b0000000000000000000_0_1000_00100000#32 0#32 0#32 = .ok (.setMode .m256) := by decide
theorem test_decode_enable : decode 0b0000000000000000000_1_0000_00110000#32 0#32 0#32 = .ok (.enable true) := by decide
theorem test_decode_isEnabled : decode 0b0000000000000000000_0_0000_00110001#32 0#32 0#32 = .ok .isEnabled := by decide
theorem test_decode_isFault : decode 0b0000000000000000000_0_0000_00110010#32 0#32 0#32 = .ok .isFault := by decide
theorem test_decode_clearFault :
    decode 0b0000000000000000000_0_0000_00110011#32 0#32 0#32 = .ok .clearFault := by decide
theorem test_decode_standby :
    decode 0b0000000000000000000_0_0000_00110100#32 0#32 0#32 = .ok (.standby false) := by decide
theorem test_decode_reset : decode 0b0000000000000000000_0_0000_00110101#32 0#32 0#32 = .ok .reset := by decide

/-! The decode table of 95_test_vectors.md L2. -/

theorem test_decode_opcode_zero : decode 0x00000000#32 0#32 0#32 = .error .opcode := by decide
theorem test_decode_opcode_unknown : decode 0x00000099#32 0#32 0#32 = .error .opcode := by decide
theorem test_decode_rsv_low : decode 0x00002001#32 0#32 0#32 = .error .reservedBits := by decide
theorem test_decode_rsv_high : decode 0x80000010#32 1#32 0#32 = .error .reservedBits := by decide
theorem test_decode_bool_unused : decode 0x00001001#32 60#32 0#32 = .error .boolUnused := by decide
theorem test_decode_mode_unused : decode 0x00000901#32 60#32 0#32 = .error .modeUnused := by decide
theorem test_decode_bool_setMode : decode 0x00001020#32 0#32 0#32 = .error .boolUnused := by decide
theorem test_decode_mode_range : decode 0x00000F02#32 0#32 0#32 = .error .modeRange := by decide
theorem test_decode_count_range : decode 0x00000010#32 0x80000000#32 0#32 = .error .countRange := by decide

/-! A row of the opcode table and its ARG words, as the host numbers them. -/

theorem test_table_word : decodeTableWord 32 0x00000820 = some (.setMode .m256) := by decide
theorem test_table_word_args :
    decodeTableWord 96 0x00000064_00000005_00000011 = some (.stepFixed 5#32 100#32) := by decide

/-! ## The instructions, from 95_test_vectors.md L1 and L2 -/

theorem test_msps : look (.msps .m256) full State.result = some 256#32 := by decide
theorem test_msps_pure : look (.msps .full) full (fun t => (t.result, t.microstepMode)) = some (1#32, .m16) := by decide
theorem test_setSpeed : look (.setSpeed 60#32) full State.pulseInterval = some 312#32 := by decide
theorem test_setSpeed_wide : look (.setSpeed 0x7FFFFFFF#32) full State.pulseInterval = some 1#32 := by decide
theorem test_step_down : look (.step 0xFFFFFFF9#32) (block allPins 5) State.position = some 198#32 := by decide
theorem test_step_trace :
    look (.step 2#32) full (fun t => t.trace.map PinEvent.shape)
      = some [(.dir, .drive true), (.step, .drive false), (.step, .drive true), (.step, .drive false),
        (.step, .drive true)] := by decide
theorem test_stepFixed :
    look (.stepFixed 0xFFFFFFFD#32 0#32) full (fun t => (t.position, t.lastPulseTime, t.trace.length))
      = some (198#32, 0, 7) := by decide
theorem test_stepFixed_zero :
    look (.stepFixed 0#32 7#32) full (fun t => t.trace.map PinEvent.shape) = some [(.dir, .drive false)] := by decide
theorem test_setMode :
    look (.setMode .m16) full (fun t => (t.result, t.trace.map PinEvent.shape))
      = some (1#32, [(.stby, .drive false), (.ms1, .drive true), (.ms2, .drive false), (.step, .drive true),
        (.dir, .drive true), (.stby, .drive true)]) := by decide
theorem test_setMode_absent :
    look (.setMode .m8) bare (fun t => (t.status, t.microstepMode, t.trace)) = some (0x20#32, .m16, []) := by decide
theorem test_enable :
    look (.enable true) full (fun t => (t.enabled, t.pins.en, t.trace.map PinEvent.shape))
      = some (true, .inPullup, [(.en, .cfgInPullup)]) := by decide
theorem test_enable_absent : look (.enable true) bare (fun t => (t.enabled, t.trace)) = some (false, []) := by decide
theorem test_isEnabled : look .isEnabled full State.result = some 0#32 := by decide
theorem test_isEnabled_absent : look .isEnabled bare State.result = some 1#32 := by decide
theorem test_isFault_absent : look .isFault bare State.result = some 0#32 := by decide
theorem test_clearFault :
    look .clearFault full (fun t => (t.enabled, t.trace.map PinEvent.shape))
      = some (true, [(.en, .cfgOutLow), (.en, .cfgInPullup)]) := by decide
theorem test_clearFault_absent : look .clearFault bare (fun t => (t.enabled, t.clock)) = some (false, 10000) := by decide
theorem test_standby_one :
    look (.standby true) full (fun t => (t.latchRole, t.trace.map PinEvent.shape))
      = some (.programming, [(.stby, .drive false)]) := by decide
theorem test_standby_zero_absent : look (.standby false) bare (fun t => (t.status, t.trace)) = some (0#32, []) := by decide
theorem test_reset :
    look .reset full (fun t => (t.microstepMode, t.trace.length, (t.trace.map PinEvent.shape).take 3))
      = some (.m16, 7, [(.stby, .drive false), (.stby, .drive false), (.ms1, .drive true)]) := by decide
theorem test_reset_absent : look .reset bare (fun t => (t.status, t.trace)) = some (0#32, []) := by decide

/-! ## The host's interface (95_test_vectors.md L2) -/

theorem test_read_position : (hostRead 0x14 4 full).readData = 198#32 := by decide
theorem test_read_present : (hostRead 0x24 4 bare).readData = 3#32 := by decide
theorem test_read_narrow : (hostRead 0x16 2 full).refusalMark = true := by decide
theorem test_write_busy : (hostWrite 0x00 4 1#32 (latched 2#32 0#32 0#32 full)).faults = [.concurrentAccess] := by decide
theorem test_read_status_busy : (hostRead 0x10 4 (latched 2#32 0#32 0#32 full)).readData = 1#32 := by decide

/-! ## The assembler (R100, R101) -/

theorem test_assemble_stepFixed :
    assembleLine "STEP_FIXED 10, 500 ; ten pulses".toList = some [.stepFixed 10#32 500#32] := by decide
theorem test_assemble_negative : assembleLine "STEP -3".toList = some [.step 0xFFFFFFFD#32] := by decide
theorem test_assemble_mode : assembleLine "SET_MODE FULL".toList = some [.setMode .full] := by decide
theorem test_assemble_mode_range : assembleLine "MSPS 9".toList = none := by decide

/-! ## Witnesses: states and operands that meet the hypotheses of each obligation, clause by clause -/

/-- The block in IDLE with these turns of the host to come. -/
def hosted (turns : List HostTurn) : State := { full with host := turns }

/-- STEP 1 in POLL, its interval past. -/
def polling : State := running (.step 1#32) 2 full

/-- STEP 1 in its pulse-width delay, which the next sample does not end. -/
def pending : State :=
  { full with phase := .run (.step 1#32) 4 { initialLocals (.step 1#32) with since := some 10000 } }

/-- The same delay with a clock that never reaches its end. -/
def stopped : State := { pending with clockStop := some 10000 }

/-- DecodeOfEncode: well-formed commands at the ends of their ranges. -/
theorem witness_DecodeOfEncode :
    (Instr.stepFixed 0x80000001#32 0xFFFFFFFF#32).wellFormed = true ∧ (Instr.step 0x7FFFFFFF#32).wellFormed = true
      ∧ (Instr.setSpeed 0x80000000#32).wellFormed = true ∧ (Instr.setMode .m256).wellFormed = true := by decide

/-- DecodedCommandHasItsOwnWord: a word that decodes with both ARG registers in use. -/
theorem witness_DecodedCommandHasItsOwnWord :
    decode 0x00000011#32 0x80000001#32 0#32 = .ok (.stepFixed 0x80000001#32 0#32) := by decide

/-- MatchAndMaskTableIsTheDecoder: a row whose word spells it at MODE 8, and does not at MODE 9. -/
theorem witness_MatchAndMaskTableIsTheDecoder :
    (⟨.msps, 0x00000002#32, 0xFFFFF0FF#32⟩ : MatchRow) ∈ matchTable
      ∧ decode 0x00000802#32 0#32 0#32 = .ok (.msps .m256)
      ∧ 0x00000902#32 &&& 0xFFFFF0FF#32 = 0x00000002#32 ∧ decode 0x00000902#32 0#32 0#32 = .error .modeRange := by
  decide

/-- IllegalWordsRaiseIllegalAndOthersRun: a latched word that spells no command for each of the six reasons, with no turn
and with a poll to come. -/
theorem witness_IllegalWordsRaiseIllegalAndOthersRun_illegal :
    (latched 0x00000003#32 0#32 0#32 full).host = []
      ∧ (latched 0x00000003#32 0#32 0#32 (hosted [.poll])).host = .poll :: []
      ∧ SpellsNoCommand 0x00000003#32 0#32 ∧ SpellsNoCommand 0x00002001#32 0#32 ∧ SpellsNoCommand 0x00000101#32 0#32
      ∧ SpellsNoCommand 0x00001020#32 0#32 ∧ SpellsNoCommand 0x00000902#32 0#32
      ∧ SpellsNoCommand 0x00000010#32 0x80000000#32 := by
  refine ⟨rfl, rfl, ?_, ?_, ?_, ?_, ?_, ?_⟩ <;> unfold SpellsNoCommand <;> decide

/-- IllegalWordsRaiseIllegalAndOthersRun: words that spell one, at the ends of their ranges, and a clock that goes on. -/
theorem witness_IllegalWordsRaiseIllegalAndOthersRun_legal :
    ¬SpellsNoCommand 0x00000820#32 0x80000000#32 ∧ ¬SpellsNoCommand 0x00000010#32 0x80000001#32
      ∧ ¬SpellsNoCommand 0x00001034#32 0#32 ∧ (latched 0x00001034#32 0#32 0#32 full).clockStop = none := by
  refine ⟨?_, ?_, ?_, rfl⟩ <;> unfold SpellsNoCommand <;> decide

/-- ConstructionRefusesZeroSpr: parameters out of range, and in range at the ends. -/
theorem witness_ConstructionRefusesZeroSpr :
    ({ blockParams allPins with spr := 0 } : Params).spr = 0
      ∧ ({ blockParams allPins with spr := 1 } : Params).valid = true
      ∧ (blockInit 0).valid { blockParams allPins with spr := 1 } = true
      ∧ ({ blockParams allPins with spr := 2147483647 } : Params).valid = true
      ∧ (blockInit 199).valid (blockParams allPins) = true := by decide

/-- StepKeepsTheInvariant: an IDLE state that meets the invariant and steps. -/
theorem witness_StepKeepsTheInvariant : full.Inv ∧ ∃ t, step full = .next t :=
  ⟨⟨by decide, by decide, by decide, by decide, by decide, by decide, by decide, by decide, by decide, trivial⟩, _, rfl⟩

theorem polling_inv : polling.Inv :=
  ⟨by decide, by decide, by decide, by decide, by decide, by decide, by decide, by decide, by decide,
    by decide, by decide, by decide, by decide, by decide, by decide, fun t0 h => by cases h⟩

theorem pending_inv : pending.Inv :=
  ⟨by decide, by decide, by decide, by decide, by decide, by decide, by decide, by decide, by decide,
    by decide, by decide, by decide, by decide, by decide, by decide,
    fun t0 h => by cases h; exact ⟨by decide, 1, rfl⟩⟩

/-- StepKeepsTheInvariant: states inside a command that meet it. -/
theorem witness_StepKeepsTheInvariant_running :
    (polling.Inv ∧ ∃ t, step polling = .next t) ∧ pending.Inv ∧ ∃ t, step pending = .next t :=
  ⟨⟨polling_inv, _, rfl⟩, pending_inv, _, rfl⟩

/-- StepRunsTheDecodedCommand: a latched word with no turns and with a poll to come, with a clock that goes on and one that
stops; a command under way; IDLE with each turn; and a table word. -/
theorem witness_StepRunsTheDecodedCommand :
    decode 0x00000402#32 0#32 0#32 = .ok (.msps .m16)
      ∧ (latched 0x00000402#32 0#32 0#32 full).host = [] ∧ (latched 0x00000402#32 0#32 0#32 full).clockStop = none
      ∧ (latched 0x00000402#32 0#32 0#32 (hosted [.poll])).host = .poll :: []
      ∧ (latched 0x00000402#32 0#32 0#32 stopped).clockStop ≠ none
      ∧ pending.phase = .run (.step 1#32) 4 { initialLocals (.step 1#32) with since := some 10000 } ∧ pending.host = []
      ∧ full.phase = .idle ∧ full.host = [] ∧ (hosted [.poll]).host = .poll :: []
      ∧ (hosted [.access (.read 0x28 4)]).host = .access (.read 0x28 4) :: [] ∧ (hosted [.yield]).host = .yield :: []
      ∧ (hosted [.access (.write 0x00 4 0x00000402#32)]).phase = .idle
      ∧ decodeTableWord 32 0x00000402 = some (.msps .m16) := by decide

/-- HostExpansionRunsTheCommand: a command of two operands, issued from IDLE. -/
theorem witness_HostExpansionRunsTheCommand :
    (Instr.stepFixed 1#32 0#32).wellFormed = true
      ∧ (hosted (hostExpansion (.stepFixed 1#32 0#32) ++ [.yield])).phase = .idle
      ∧ (hosted (hostExpansion (.stepFixed 1#32 0#32) ++ [.yield])).clockStop = none
      ∧ ∃ t, exec (.stepFixed 1#32 0#32)
          { hosted (hostExpansion (.stepFixed 1#32 0#32) ++ [.yield]) with
            arg0 := 1#32, arg1 := 0#32, phase := .start 0x00000011#32 1#32 0#32, host := [.poll, .yield],
            observed := false }
        = .next t :=
  ⟨rfl, rfl, rfl, _, rfl⟩

/-- ParametersNeverChange and EveryStepOnlyAppendsToTheTraceInTimeOrder: a step of a command. -/
theorem witness_ParametersNeverChange : ∃ t, step (latched 0x00000020#32 0#32 0#32 full) = .next t := ⟨_, rfl⟩

theorem witness_EveryStepOnlyAppendsToTheTraceInTimeOrder :
    ∃ t, step (latched 0x00000010#32 1#32 0#32 full) = .next t := ⟨_, rfl⟩

/-- FaultsAndRefusalsAreNeverCleared: a step that raises the fault, and a run with it. -/
theorem witness_FaultsAndRefusalsAreNeverCleared_fault :
    (∃ t, step { latched 0x00000002#32 0#32 0#32 full with host := [.access (.write 0x08 4 1#32)] } = .next t
        ∧ t.faults ≠ full.faults)
      ∧ ∃ t, Host.Core.run core 2 { full with faults := [.concurrentAccess] } = .next t :=
  ⟨⟨_, rfl, by decide⟩, _, rfl⟩

/-- FaultsAndRefusalsAreNeverCleared: a step that sets the mark, and a run with it. -/
theorem witness_FaultsAndRefusalsAreNeverCleared_mark :
    (∃ t, step (hosted [.access (.read 0x28 4)]) = .next t ∧ t.refusalMark ≠ full.refusalMark)
      ∧ ∃ t, Host.Core.run core 2 { full with refusalMark := true } = .next t := ⟨⟨_, rfl, by decide⟩, _, rfl⟩

/-- RunEndsOnlyOnceItsCompletionIsRead: a final state, a CMD write, and the two reads that observe a completion. -/
theorem witness_RunEndsOnlyOnceItsCompletionIsRead :
    full.final = true
      ∧ (∃ t, step (hosted [.access (.write 0x00 4 0x00000031#32)]) = .next t ∧ full.observed = true ∧ t.observed = false)
      ∧ (∃ t, step { hosted [.poll] with observed := false } = .next t ∧ t.observed = true)
      ∧ ∃ t, step { hosted [.access (.read 0x10 4)] with observed := false } = .next t ∧ t.observed = true :=
  ⟨rfl, ⟨_, rfl, rfl, rfl⟩, ⟨_, rfl, rfl⟩, _, rfl, rfl⟩

/-- EveryProgramRunsToItsEnd: two commands about to be issued, and none. -/
theorem witness_EveryProgramRunsToItsEnd :
    (∀ i ∈ [Instr.stepFixed 1#32 0#32, .isEnabled], i.wellFormed = true)
      ∧ (hosted ([Instr.stepFixed 1#32 0#32, .isEnabled].flatMap hostExpansion)).phase = .idle
      ∧ (hosted []).host = ([] : List Instr).flatMap hostExpansion ∧ full.clockStop = none ∧ full.observed = true
      ∧ full.faults = [] ∧ full.refusalMark = false := by decide

/-- OnlyTheHostWritesTheArgRegisters: a step that changes each. -/
theorem witness_OnlyTheHostWritesTheArgRegisters :
    (∃ t, step (hosted [.access (.write 0x04 4 9#32)]) = .next t ∧ t.arg0 ≠ full.arg0)
      ∧ ∃ t, step (hosted [.access (.write 0x08 4 9#32)]) = .next t ∧ t.arg1 ≠ full.arg1 :=
  ⟨⟨_, rfl, by decide⟩, _, rfl, by decide⟩

/-- SetSpeedComputesTheInterval and SetSpeedIntervalIsInRange: speeds at both sides of zero. -/
theorem witness_SetSpeedComputesTheInterval :
    (0#32).toInt ≤ 0 ∧ (0x80000000#32).toInt ≤ 0 ∧ 0 < (1#32).toInt ∧ 0 < (0x7FFFFFFF#32).toInt := by decide

/-- SetSpeedIntervalIsInRange: the speed that meets the sentinel's value without the sentinel. -/
theorem witness_SetSpeedIntervalIsInRange :
    (0xFFFFFFFF#32).toInt ≤ 0
      ∧ ∃ t, exec (.setSpeed 1#32) { full with params := { full.params with spr := 60 }, microstepMode := .full }
        = .next t := ⟨by decide, _, rfl⟩

/-- StepMovesThePosition: counts at both ends, the count 0, and a state in range. -/
theorem witness_StepMovesThePosition :
    0x7FFFFFFF#32 ≠ 0x80000000#32 ∧ 0x80000001#32 ≠ 0x80000000#32 ∧ full.params.valid = true
      ∧ full.position.toNat < full.params.spr ∧ (0#32).toInt = 0 ∧ (0xFFFFFFFF#32).toInt.natAbs = 0 + 1
      ∧ (0x80000001#32).toInt.natAbs = 2147483646 + 1 := by decide

/-- StepLeavesTheRestUnchanged: a count that steps, and the count that is illegal. -/
theorem witness_StepLeavesTheRestUnchanged :
    (∃ t, exec (.step 1#32) full = .next t) ∧ ∃ t, exec (.step 0x80000000#32) full = .next t := ⟨⟨_, rfl⟩, _, rfl⟩

/-- AdvanceWrapsAtBothEnds: positions at both ends, and a command that is not STEP. -/
theorem witness_AdvanceWrapsAtBothEnds :
    (block allPins 199).params.valid = true ∧ (block allPins 199).position.toNat = (block allPins 199).params.spr - 1
      ∧ (block allPins 0).position.toNat = 0 ∧ (∀ c, Instr.isEnabled ≠ .step c)
      ∧ ∃ t, exec .isEnabled full = .next t :=
  ⟨by decide, by decide, by decide, fun _ => Instr.noConfusion, _, rfl⟩

/-- StepPulsesArePaced: STEP present, and counts of either sign. -/
theorem witness_StepPulsesArePaced :
    full.params.present.step = true ∧ (1#32 : Word) ≠ 0x80000000#32 ∧ (1#32 : Word) ≠ 0#32
      ∧ (∃ t, exec (.step 1#32) full = .next t) ∧ ∃ t, exec (.step 0xFFFFFFFF#32) full = .next t :=
  ⟨by decide, by decide, by decide, ⟨_, rfl⟩, _, rfl⟩

/-- StepIgnoresStandby: both commands answer. -/
theorem witness_StepIgnoresStandby :
    (∃ t, exec (.step 2#32) full = .next t) ∧ ∃ t, exec (.stepFixed 2#32 1#32) full = .next t := ⟨⟨_, rfl⟩, _, rfl⟩

/-- StepFixedEmitsWithoutTracking: a count that is not −2^31. -/
theorem witness_StepFixedEmitsWithoutTracking : (0x80000001#32 : Word) ≠ 0x80000000#32 := by decide

/-- StepFixedPulsesKeepTheirCadence: STEP present, and the command answers. -/
theorem witness_StepFixedPulsesKeepTheirCadence :
    full.params.present.step = true ∧ ∃ t, exec (.stepFixed 5#32 100#32) full = .next t := ⟨rfl, _, rfl⟩

/-- The pins present and absent: SetModeLatchesAndStoresTheMode, StandbyEntersAndLeaves,
ResetCommandRelatchesTheStoredMode. -/
theorem witness_SetModeLatchesAndStoresTheMode :
    full.params.present.stby = true ∧ bare.params.present.stby = false := by decide

theorem witness_StandbyEntersAndLeaves :
    full.params.present.stby = true ∧ bare.params.present.stby = false := by decide

theorem witness_ResetCommandRelatchesTheStoredMode :
    full.params.present.stby = true ∧ bare.params.present.stby = false := by decide

/-- The pins present and absent: EnableSetsTheFlagAndTheEnPin, ClearFaultPulsesEnLowAndReenables. -/
theorem witness_EnableSetsTheFlagAndTheEnPin :
    full.params.present.en = true ∧ bare.params.present.en = false := by decide

theorem witness_ClearFaultPulsesEnLowAndReenables :
    full.params.present.en = true ∧ bare.params.present.en = false := by decide

/-- IsFaultSamplesTheEnLine: EN absent, and present in each configuration. -/
theorem witness_IsFaultSamplesTheEnLine :
    bare.params.present.en = false ∧ full.params.present.en = true ∧ full.pins.en = .inPullup
      ∧ ({ full with pins := { full.pins with en := .outLow } } : State).pins.en = .outLow := by decide

/-- EnableStateIsReportedBack: EN absent, and a command before IS_FAULT. -/
theorem witness_EnableStateIsReportedBack :
    bare.params.present.en = false ∧ ∃ t, exec .clearFault bare = .next t := ⟨rfl, _, rfl⟩

/-- StandbyIsLeftByTheLatchSequence: STBY absent, and present for a command of each kind. -/
theorem witness_StandbyIsLeftByTheLatchSequence :
    bare.params.present.stby = false ∧ full.params.present.stby = true ∧ (∃ t, exec (.standby true) full = .next t)
      ∧ (∃ t, exec .reset full = .next t) ∧ ∃ t, exec (.step 1#32) full = .next t :=
  ⟨rfl, rfl, ⟨_, rfl⟩, ⟨_, rfl⟩, _, rfl⟩

/-- CommandsWriteOnlyTheirStateOfTheTable: MSPS is none of the commands its clauses leave out, and STANDBY 1 is one of
those that write STBY alone. -/
theorem witness_CommandsWriteOnlyTheirStateOfTheTable :
    (∃ t, exec (.msps .full) full = .next t) ∧ (∀ rpm, Instr.msps .full ≠ .setSpeed rpm)
      ∧ (∀ c, Instr.msps .full ≠ .step c) ∧ (∀ c w, Instr.msps .full ≠ .stepFixed c w)
      ∧ (∀ m, Instr.msps .full ≠ .setMode m) ∧ (∀ b, Instr.msps .full ≠ .enable b)
      ∧ (∀ b, Instr.msps .full ≠ .standby b) ∧ Instr.msps .full ≠ .clearFault ∧ Instr.msps .full ≠ .reset
      ∧ (∃ t, exec (.standby true) full = .next t) ∧ Instr.standby true ≠ .standby false :=
  ⟨⟨_, rfl⟩, fun _ => Instr.noConfusion, fun _ => Instr.noConfusion, fun _ _ => Instr.noConfusion, by simp,
    fun _ => Instr.noConfusion, fun _ => Instr.noConfusion, Instr.noConfusion, Instr.noConfusion, ⟨_, rfl⟩, by decide⟩

/-- ErrorsArePrecise: a command that ends in each error, a word that does not decode with each turn of the host, and a
move that raises an error. -/
theorem witness_ErrorsArePrecise :
    (∃ t, exec (.setMode .m8) bare = .next t ∧ t.err ≠ .none)
      ∧ (∃ t, exec (.step 0x80000000#32) full = .next t ∧ t.err ≠ .none)
      ∧ decode 0x00000099#32 0#32 0#32 = .error .opcode ∧ (latched 0x00000099#32 0#32 0#32 full).host = []
      ∧ (latched 0x00000099#32 0#32 0#32 (hosted [.yield])).host = .yield :: []
      ∧ (running (.setMode .m8) 1 bare).err = .none ∧ (blockMove (running (.setMode .m8) 1 bare)).err ≠ .none :=
  ⟨⟨_, rfl, by decide⟩, ⟨_, rfl, by decide⟩, rfl, rfl, rfl, rfl, by decide⟩

/-- IdleReadsReturnTheRegisters and IdleWritesSetArgsAndStartCommands: an IDLE state. -/
theorem witness_IdleReadsReturnTheRegisters : full.phase = .idle := rfl

theorem witness_IdleWritesSetArgsAndStartCommands : full.phase = .idle := rfl

/-- BusyReadsReturnStatusArgsAndConstants and WritesWhileBusyAreConcurrentAccess: a busy state, with the offsets at both
ends of each list. -/
theorem witness_BusyReadsReturnStatusArgsAndConstants :
    polling.phase ≠ .idle ∧ 0x0C ∈ [0x0C, 0x14, 0x18, 0x1C] ∧ 0x1C ∈ [0x0C, 0x14, 0x18, 0x1C] := by decide

theorem witness_WritesWhileBusyAreConcurrentAccess :
    (latched 0#32 0#32 0#32 full).phase ≠ .idle ∧ 0x00 ∈ [0x00, 0x04, 0x08] ∧ 0x08 ∈ [0x00, 0x04, 0x08] := by decide

/-- OtherAccessesAreRefused: a width, an alignment and an offset of its clauses, and the read-only registers' ends. -/
theorem witness_OtherAccessesAreRefused :
    (8 ≠ 4 ∨ 0x14 % 4 ≠ 0 ∨ 0x28 ≤ 0x14) ∧ (4 ≠ 4 ∨ 0x05 % 4 ≠ 0 ∨ 0x28 ≤ 0x05) ∧ (4 ≠ 4 ∨ 0x28 % 4 ≠ 0 ∨ 0x28 ≤ 0x28)
      ∧ 0x0C ∈ [0x0C, 0x10, 0x14, 0x18, 0x1C, 0x20, 0x24] ∧ 0x24 ∈ [0x0C, 0x10, 0x14, 0x18, 0x1C, 0x20, 0x24] := by
  decide

/-- InstancesShareNothing: two blocks built together and apart, and an address in neither block's aperture and in one of
them. -/
theorem witness_InstancesShareNothing :
    constructAll [(blockParams allPins, blockInit 0), (blockParams allPins, blockInit 0)]
        = .next [block allPins 0, { block allPins 0 with env := 1 }]
      ∧ [full, bare][1]? = some bare ∧ offsetInAperture? bare.params 0x4100 = none
      ∧ offsetInAperture? bare.params 0x40FF = some 0xFF := ⟨rfl, by decide⟩

/-- SequencerReachesWhatExecAnswers: a latched word that spells a command and one that does not, each run to IDLE. -/
theorem witness_SequencerReachesWhatExecAnswers :
    (blockMoves 3 (latched 0x00000402#32 0#32 0#32 full)).phase = .idle
      ∧ decode 0x00000402#32 0#32 0#32 = .ok (.msps .m16)
      ∧ (blockMoves 1 (latched 0x00000099#32 0#32 0#32 full)).phase = .idle
      ∧ decode 0x00000099#32 0#32 0#32 = .error .opcode := by decide

/-- OnlyAFailedPollDelaysCompletion: a busy state that meets the invariant and whose move is a failed poll, and one whose
move need not be. -/
theorem witness_OnlyAFailedPollDelaysCompletion :
    pending.Inv ∧ pending.phase ≠ .idle ∧ pending.failedPoll (blockMove pending)
      ∧ polling.Inv ∧ polling.phase ≠ .idle :=
  ⟨pending_inv, Phase.noConfusion, ⟨10001, rfl, by decide, rfl⟩, polling_inv, Phase.noConfusion⟩

/-- EveryCommandCompletesWhileTheClockGoesOn: a command in a delay, waited for with no turn and with a poll. -/
theorem witness_EveryCommandCompletesWhileTheClockGoesOn :
    pending.Inv ∧ pending.clockStop = none ∧ pending.host = [] ∧ polling.Inv ∧ (hosted [.poll]).host = .poll :: [] :=
  ⟨pending_inv, rfl, rfl, polling_inv, rfl⟩

/-- AStoppedClockHangsTheCommand: a delay whose end is one µs after the clock stops. -/
theorem witness_AStoppedClockHangsTheCommand :
    stopped.Inv ∧ stopped.hung ∧ stopped.host = [] ∧ ({ stopped with host := [.poll] } : State).host = .poll :: [] :=
  ⟨⟨by decide, by decide, by decide, by decide, fun _ h => by cases h; decide, by decide, by decide, by decide, by decide,
      pending_inv.phase⟩,
    ⟨10001, 10000, rfl, rfl, by decide⟩, rfl, rfl⟩

/-- StepGoesThroughPendingPulsedAndDone: STEP at none of the points, and at each of them. -/
theorem witness_StepGoesThroughPendingPulsedAndDone :
    (running (.step 1#32) 0 full).stepPoint? = none ∧ (running (.step 1#32) 1 full).stepPoint? = none
      ∧ (polling.Inv ∧ polling.stepPoint? = some .poll) ∧ (pending.Inv ∧ pending.stepPoint? = some .pulse)
      ∧ ({ full with phase := .run (.step 1#32) 1 { initialLocals (.step 1#32) with n := 0 } } : State).stepPoint?
        = some .pulse
      ∧ (running (.step 1#32) 9 full).stepPoint? = some .done :=
  ⟨rfl, rfl, ⟨polling_inv, rfl⟩, ⟨pending_inv, rfl⟩, rfl, rfl⟩

/-- PacedPulseWaitsForItsInterval: STEP in POLL, and a move that keeps a new release sample. -/
theorem witness_PacedPulseWaitsForItsInterval :
    polling.stepPoint? = some .poll
      ∧ (blockMove { polling with phase := .run (.step 1#32) 7 { initialLocals (.step 1#32) with t := 5 } }).lastPulseTime
        ≠ polling.lastPulseTime := by decide

end Sys2Proof.Tests
end

/-! PROOF. What the primitives do to the clock, and where a script loops. -/

namespace Sys2Proof.Machine

/-! ## The clock of a primitive -/

/-- A `PinWrite` takes one clock sample, or none where the pin is absent (R14). -/
theorem pinWrite_clock (o : OutPin) (v : Bool) (s : State) :
    (pinWrite o v s).clock = s.clock ∨ (pinWrite o v s).clock = nextClock s := by
  unfold pinWrite
  split
  · exact .inr rfl
  · exact .inl rfl

theorem pinCfgOutLow_clock (s : State) : (pinCfgOutLow s).clock = s.clock ∨ (pinCfgOutLow s).clock = nextClock s := by
  unfold pinCfgOutLow
  split
  · exact .inr rfl
  · exact .inl rfl

theorem pinCfgInPullup_clock (s : State) :
    (pinCfgInPullup s).clock = s.clock ∨ (pinCfgInPullup s).clock = nextClock s := by
  unfold pinCfgInPullup
  split
  · exact .inr rfl
  · exact .inl rfl

/-- A primitive takes at most one clock sample (R15, R44). -/
theorem perform_clock (c : Instr) (point : Nat) (l : Locals) (s : State) (p : Prim) :
    (perform c point l s p).clock = s.clock ∨ (perform c point l s p).clock = nextClock s := by
  cases p with
  | pinWrite o v => exact pinWrite_clock o _ s
  | cfgOutLow => exact pinCfgOutLow_clock s
  | cfgInPullup => exact pinCfgInPullup_clock s
  | delay us =>
    simp only [perform]
    split <;> [skip; split]
    · exact .inl rfl
    · exact .inr rfl
    · exact .inr rfl
  | waitPace => simp only [perform]; split <;> exact .inr rfl
  | advance => exact .inl (advance_clock s l.fwd)
  | stamp | whileMore | again | loadCode | setMode | setEnabled | setInterval | result | resultEnabled | resultFault
  | raise => exact .inl rfl

/-- A move of the block takes at most one clock sample. -/
theorem blockMove_clock (s : State) : (blockMove s).clock = s.clock ∨ (blockMove s).clock = nextClock s := by
  unfold blockMove
  split
  · exact .inr rfl
  · split <;> exact .inl rfl
  · split
    · exact .inl rfl
    · exact perform_clock _ _ _ _ _

/-! ## The loops of a script -/

/-- The two primitives that a loop is made of. -/
def Prim.isJump : Prim → Bool
  | .whileMore _ | .again _ => true
  | .pinWrite _ _ | .cfgOutLow | .cfgInPullup | .delay _ | .waitPace | .advance | .stamp | .loadCode _ | .setMode _
  | .setEnabled _ | .setInterval _ | .result _ | .resultEnabled | .resultFault | .raise _ => false

/-- Only STEP and STEP_FIXED have a loop (R141, R160), and of the other commands only IS_FAULT samples EN (R194). -/
theorem script_straight (p : Params) {c : Instr} (hs : ∀ n, c ≠ .step n) (hf : ∀ n i, c ≠ .stepFixed n i) :
    ∀ q ∈ script p c, q.isJump = false ∧ (q = .resultFault → c = .isFault) := by
  cases c with
  | step n => exact absurd rfl (hs n)
  | stepFixed n i => exact absurd rfl (hf n i)
  | setSpeed | msps => simp [script, Prim.isJump]
  | setMode | standby | reset =>
    simp only [script, standbyScript, latchScript]
    split_ifs <;> simp [Prim.isJump]
  | enable b => cases b <;> simp only [script] <;> split <;> simp [Prim.isJump]
  | isEnabled | isFault | clearFault => simp only [script]; split <;> simp [Prim.isJump]

/-- A loop's test is at point 1, and it leaves for the point after the loop (R141, R160). -/
theorem script_whileMore {p : Params} {c : Instr} {point exit : Nat}
    (h : (script p c)[point]? = some (.whileMore exit)) :
    point = 1 ∧ ((∃ n, c = .step n ∧ exit = 9) ∨ ∃ n i, c = .stepFixed n i ∧ exit = 7) := by
  cases c with
  | step n | stepFixed n i =>
    obtain ⟨hlt, hget⟩ := List.getElem?_eq_some_iff.1 h
    simp only [script, List.length_cons, List.length_nil] at hlt
    interval_cases point <;> simp_all [script]
  | setSpeed | msps | setMode | enable | isEnabled | isFault | clearFault | standby | reset =>
    obtain ⟨hj, -⟩ := script_straight p (by simp) (by simp) _ (List.mem_of_getElem? h)
    cases hj

/-- A turn of a loop goes back to its test (R141, R160). -/
theorem script_again {p : Params} {c : Instr} {point target : Nat}
    (h : (script p c)[point]? = some (.again target)) :
    target = 1 ∧ ((∃ n, c = .step n) ∨ ∃ n i, c = .stepFixed n i) := by
  have hm := List.mem_of_getElem? h
  cases c with
  | step n | stepFixed n i => simp_all [script]
  | setSpeed | msps | setMode | enable | isEnabled | isFault | clearFault | standby | reset =>
    obtain ⟨hj, -⟩ := script_straight p (by simp) (by simp) _ hm
    cases hj

end Sys2Proof.Machine

/-! PROOF. The invariant of R48 (`State.Inv`), in three parts: what holds of the device whatever the phase, the clock
that does not pass its stop, and what the phase holds. Each primitive keeps each part; a command and a step are made of
them. -/

namespace Sys2Proof.Machine

/-! ## The device part -/

/-- `State.Inv` without the phase and without the clock's stop, which a wait performed whole may pass. -/
structure State.Sound (s : State) : Prop where
  params : s.params.valid = true
  interval : 1 ≤ s.pulseInterval.toNat
  position : s.position.toNat < s.params.spr
  lastPulse : s.lastPulseTime ≤ s.clock
  traceOrder : s.trace.Pairwise fun e f => e.time ≤ f.time
  tracePast : ∀ e ∈ s.trace, e.time ≤ s.clock
  tracePins : ∀ e ∈ s.trace, s.hasPin e.pin = true
  faultSet : s.faults.Nodup

theorem State.Inv.sound {s : State} (h : s.Inv) : s.Sound :=
  { h with }

/-- `State.Inv` put together from its three parts. -/
theorem State.Sound.inv {s : State} (h : s.Sound) (hstop : ∀ stop, s.clockStop = some stop → s.clock ≤ stop)
    (hphase : s.PhaseInv) : s.Inv :=
  { h with clockStop := hstop, phase := hphase }

/-- The ranges of SPR (R8). -/
theorem spr_range_of_valid {p : Params} (h : p.valid = true) : 1 ≤ p.spr ∧ p.spr ≤ 2 ^ 31 - 1 := by
  simp only [Params.valid, Bool.and_eq_true, decide_eq_true_eq] at h
  obtain ⟨⟨⟨⟨hlow, hhigh⟩, -⟩, -⟩, -⟩ := h
  exact ⟨hlow, hhigh⟩

/-- `Advance` stays in [0, SPR) (R33, R142). -/
theorem advance_position_lt {s : State} (hv : s.params.valid = true) (h : s.position.toNat < s.params.spr)
    (fwd : Bool) : (advance fwd s).position.toNat < s.params.spr := by
  obtain ⟨hlow, hhigh⟩ := spr_range_of_valid hv
  cases fwd with
  | true =>
    simp only [advance, if_true]
    split
    · exact hlow
    · rw [BitVec.toNat_add]; simp; omega
  | false =>
    simp only [advance, Bool.false_eq_true, if_false]
    split
    · rw [BitVec.toNat_ofNat]; omega
    · next hne =>
      have hpos : s.position.toNat ≠ 0 := fun h0 => hne (BitVec.eq_of_toNat_eq h0)
      rw [BitVec.toNat_sub]; simp; omega

/-- R122's interval is in [1, 2^32) (R32). -/
theorem intervalFor_range (spr : Nat) (m : MicrostepMode) (rpm : Word) :
    1 ≤ intervalFor spr m rpm ∧ intervalFor spr m rpm < 2 ^ 32 := by
  have hq := Nat.div_le_self Config.ticksPerMinute (spr * divisor m * (sint32 rpm).toNat)
  unfold intervalFor
  split
  · decide
  · unfold Config.ticksPerMinute at *; omega

/-- What only samples the clock and emits events on present pins keeps the device part (R80). -/
theorem State.Sound.of_emits {s t : State} {shape : List (Pin × PinAction)} (h : s.Sound) (he : Emits s t shape)
    (hpins : ∀ e ∈ shape, s.hasPin e.1 = true) (hp : t.params = s.params) (hi : t.pulseInterval = s.pulseInterval)
    (hpos : t.position = s.position) (hl : t.lastPulseTime = s.lastPulseTime) (hf : t.faults = s.faults) :
    t.Sound := by
  obtain ⟨hc, events, htr, hsh, hord, hin⟩ := he
  have hpin : ∀ e ∈ events, s.hasPin e.pin = true := fun e hm =>
    hpins e.shape (hsh ▸ List.mem_map_of_mem hm)
  refine ⟨hp ▸ h.params, hi ▸ h.interval, by rw [hpos, hp]; exact h.position, by rw [hl]; exact h.lastPulse.trans hc,
    ?_, ?_, ?_, hf ▸ h.faultSet⟩
  · rw [htr, List.pairwise_append]
    exact ⟨h.traceOrder, hord, fun e he f hf => (h.tracePast e he).trans (hin f hf).1⟩
  · rw [htr, List.forall_mem_append]
    exact ⟨fun e he => (h.tracePast e he).trans hc, fun e he => (hin e he).2⟩
  · rw [htr, List.forall_mem_append]
    simp only [State.hasPin, hp]
    exact ⟨h.tracePins, hpin⟩

section
variable {s : State} (h : s.Sound)
include h

theorem State.Sound.sampleClock : (sampleClock s).Sound :=
  h.of_emits (sampleClock_emits s) (by simp) rfl rfl rfl rfl rfl

theorem State.Sound.delayUs (n : Nat) : (delayUs n s).Sound :=
  h.of_emits (delayUs_emits n s) (by simp) rfl rfl rfl rfl rfl

theorem State.Sound.waitPace : (waitPace s).Sound :=
  h.of_emits (waitPace_emits s) (by simp) rfl rfl rfl rfl rfl

theorem State.Sound.pinWrite (o : OutPin) (v : Bool) : (pinWrite o v s).Sound :=
  h.of_emits (pinWrite_emits o v s) (by split <;> simp_all) (by simp) (by simp) (by simp) (by simp) (by simp)

theorem State.Sound.pinCfgOutLow : (pinCfgOutLow s).Sound :=
  h.of_emits (pinCfgOutLow_emits s) (by split <;> simp_all) (by simp) (by simp) (by simp) (by simp) (by simp)

theorem State.Sound.pinCfgInPullup : (pinCfgInPullup s).Sound :=
  h.of_emits (pinCfgInPullup_emits s) (by split <;> simp_all) (by simp) (by simp) (by simp) (by simp) (by simp)

theorem State.Sound.complete (v : Word) : (complete v s).Sound := { h with }

theorem State.Sound.raiseErr (code : ErrCode) : (raiseErr code s).Sound := { h with }

theorem State.Sound.finish : (finish s).Sound := { h with }

theorem State.Sound.runAt (c : Instr) (point : Nat) (l : Locals) : (runAt c point l s).Sound := { h with }

theorem State.Sound.advance (fwd : Bool) : (advance fwd s).Sound where
  params := by simpa using h.params
  interval := by simpa using h.interval
  position := by simpa using advance_position_lt h.params h.position fwd
  lastPulse := by simpa using h.lastPulse
  traceOrder := by simpa using h.traceOrder
  tracePast := by simpa using h.tracePast
  tracePins := by simpa using h.tracePins
  faultSet := by simpa using h.faultSet

theorem State.Sound.setInterval (rpm : Word) :
    ({ s with pulseInterval := BitVec.ofNat 32 (intervalFor s.params.spr s.microstepMode rpm) } : State).Sound where
  __ := h
  interval := by
    obtain ⟨hlow, hhigh⟩ := intervalFor_range s.params.spr s.microstepMode rpm
    rw [BitVec.toNat_ofNat]; omega

theorem State.Sound.stamp {t : Nat} (ht : t ≤ s.clock) : ({ s with lastPulseTime := t } : State).Sound :=
  { h with lastPulse := ht }

theorem State.Sound.pulse : (pulse s).Sound := ((h.pinWrite .step false).delayUs _).pinWrite .step true

theorem State.Sound.pacedPulse (fwd : Bool) : (pacedPulse fwd s).Sound :=
  (h.waitPace.pulse.advance fwd).stamp (by simpa using (pulse_emits (Machine.waitPace s)).clock_le)

theorem State.Sound.fixedPulse (w : Nat) : (fixedPulse w s).Sound := h.pulse.delayUs w

theorem State.Sound.driveCode (code : BitVec 4) : (driveCode code s).Sound :=
  (((h.pinWrite .ms1 _).pinWrite .ms2 _).pinWrite .step _).pinWrite .dir _

theorem State.Sound.latchSequence (m : MicrostepMode) : (latchSequence m s).Sound :=
  (((h.pinWrite .stby false).delayUs _).driveCode _).pinWrite .stby true

theorem State.Sound.standbyBody (b : Bool) : (standbyBody b s).Sound := by
  unfold Machine.standbyBody
  split
  · cases b
    · exact h.latchSequence _
    · exact h.pinWrite .stby false
  · exact h

end

theorem State.Sound.pacedPulses {s : State} (h : s.Sound) (fwd : Bool) (n : Nat) : (pacedPulses fwd n s).Sound := by
  induction n generalizing s with
  | zero => exact h
  | succ n ih => exact ih (h.pacedPulse fwd)

theorem State.Sound.fixedPulses {s : State} (h : s.Sound) (w n : Nat) : (fixedPulses w n s).Sound := by
  induction n generalizing s with
  | zero => exact h
  | succ n ih => exact ih (h.fixedPulse w)

/-- Every command keeps the device part. -/
theorem exec_sound {i : Instr} {s t : State} (h : s.Sound) (he : exec i s = .next t) : t.Sound := by
  cases i <;> (injection he with he; subst he)
  case setSpeed rpm => exact (h.setInterval rpm).complete _
  case msps m => exact h.complete _
  case step count =>
    split
    · exact ((h.pinWrite .dir _).pacedPulses _ _).complete _
    · exact h.raiseErr _
  case stepFixed count interval =>
    split
    · exact ((h.pinWrite .dir _).fixedPulses _ _).complete _
    · exact h.raiseErr _
  case setMode m =>
    split
    · exact { h.latchSequence m with }
    · exact h.raiseErr _
  case enable b =>
    split
    · cases b
      · exact { h.pinCfgOutLow with }
      · exact { h.pinCfgInPullup with }
    · exact h.complete _
  case isEnabled => exact h.complete _
  case isFault =>
    split
    · exact { h with }
    · exact h.complete _
  case clearFault =>
    split
    · exact { (h.pinCfgOutLow.delayUs _).pinCfgInPullup with }
    · exact h.complete _
  case standby b => exact (h.standbyBody b).complete _
  case reset => exact (((h.standbyBody true).delayUs _).standbyBody false).complete _

/-- Every primitive keeps the device part; `stamp` needs a release sample that is not later than the clock. -/
theorem perform_sound {s : State} (h : s.Sound) (c : Instr) (point : Nat) {l : Locals} (ht : l.t ≤ s.clock) (p : Prim) :
    (perform c point l s p).Sound := by
  cases p with
  | pinWrite o v => exact (h.pinWrite o _).runAt _ _ _
  | cfgOutLow => exact h.pinCfgOutLow.runAt _ _ _
  | cfgInPullup => exact h.pinCfgInPullup.runAt _ _ _
  | delay us =>
    simp only [perform]
    split <;> [skip; split]
    · exact h.runAt _ _ _
    · exact h.sampleClock.runAt _ _ _
    · exact h.sampleClock
  | waitPace =>
    simp only [perform]
    split
    · exact h.sampleClock.runAt _ _ _
    · exact h.sampleClock
  | advance => exact (h.advance _).runAt _ _ _
  | stamp => exact (h.stamp ht).runAt _ _ _
  | setInterval rpm => exact (h.setInterval rpm).runAt _ _ _
  | whileMore | again | loadCode => exact h.runAt _ _ _
  | raise code => exact h.raiseErr code
  | setMode | setEnabled | result | resultEnabled | resultFault => exact { h with }

/-! ## The phase part -/

/-- What `State.PhaseInv` says of a command under way, its clauses named. -/
structure RunInv (s : State) (c : Instr) (point : Nat) (l : Locals) : Prop where
  wellFormed : c.wellFormed = true
  count : l.n ≤ (initialLocals c).n
  dir : l.fwd = (initialLocals c).fwd
  atStart : point = 0 → l.n = (initialLocals c).n
  inside : insideLoop c point = true → 0 < l.n
  release : l.t ≤ s.clock
  delay : ∀ t0, l.since = some t0 → t0 ≤ s.clock ∧ ∃ us, (script s.params c)[point]? = some (.delay us)

theorem phaseInv_run {s : State} {c : Instr} {point : Nat} {l : Locals} (h : s.phase = .run c point l) :
    s.PhaseInv ↔ RunInv s c point l := by
  simp only [State.PhaseInv, h]
  constructor
  · rintro ⟨hwf, hn, hfwd, hstart, hin, ht, hdelay⟩
    exact ⟨hwf, hn, hfwd, hstart, hin, ht, hdelay⟩
  · rintro ⟨hwf, hn, hfwd, hstart, hin, ht, hdelay⟩
    exact ⟨hwf, hn, hfwd, hstart, hin, ht, hdelay⟩

theorem phaseInv_idle {s : State} (h : s.phase = .idle) : s.PhaseInv := by simp [State.PhaseInv, h]

/-- A change of other fields, and of the clock forwards, keeps what the phase holds. -/
theorem State.PhaseInv.mono {s t : State} (h : s.PhaseInv) (hph : t.phase = s.phase) (hc : s.clock ≤ t.clock)
    (hp : t.params = s.params) (h0 : t.arg0 = s.arg0) (h1 : t.arg1 = s.arg1) : t.PhaseInv := by
  cases hs : s.phase with
  | idle => exact phaseInv_idle (hph.trans hs)
  | start w a0 a1 => simpa [State.PhaseInv, hph, hs, h0, h1] using h
  | run c point l =>
    have hr := (phaseInv_run hs).1 h
    exact (phaseInv_run (hph.trans hs)).2
      { hr with
        release := hr.release.trans hc
        delay := fun t0 ht => ⟨(hr.delay t0 ht).1.trans hc, hp ▸ (hr.delay t0 ht).2⟩ }

/-- What the decoder answers, where it answers a command: that of the opcode, its count checked (R92). -/
theorem decode_ok {w a0 a1 : Word} {c : Instr} (h : decode w a0 a1 = .ok c) :
    ∃ (op : Opcode) (mode : MicrostepMode),
      c = op.build mode (cmdBool w) a0 a1 ∧ (op.usesCount = true → a0.isCount = true) := by
  unfold decode at h
  split at h
  · cases h
  · next op _ =>
    split at h <;> [cases h; skip]
    split at h <;> [cases h; skip]
    split at h <;> [cases h; skip]
    split at h
    · cases h
    · next mode _ =>
      split at h
      · cases h
      · next hcount => exact ⟨op, mode, (Except.ok.inj h).symm, by simpa using hcount⟩

/-- R92: a word that decodes spells a command that an encoding spells. -/
theorem wellFormed_of_decode {w a0 a1 : Word} {c : Instr} (h : decode w a0 a1 = .ok c) : c.wellFormed = true := by
  obtain ⟨op, mode, rfl, hcount⟩ := decode_ok h
  cases op with
  | step | stepFixed => exact hcount rfl
  | setSpeed | msps | setMode | enable | isEnabled | isFault | clearFault | standby | reset => rfl

/-- The point before one inside a loop is inside it too, or is the loop's test. -/
theorem insideLoop_of_succ {c : Instr} {point : Nat} (p : Params) (h : insideLoop c (point + 1) = true) :
    insideLoop c point = true ∨ ∃ exit, (script p c)[point]? = some (.whileMore exit) := by
  cases c with
  | step n | stepFixed n i =>
    simp only [insideLoop, Bool.and_eq_true, decide_eq_true_eq] at h ⊢
    by_cases h1 : point = 1
    · subst h1; exact .inr ⟨_, rfl⟩
    · exact .inl (by omega)
  | setSpeed | msps | setMode | enable | isEnabled | isFault | clearFault | standby | reset => cases h

section
variable {s t : State} {c : Instr} {point point' : Nat} {l l' : Locals}

/-- A primitive that is no delay is performed with none under way. -/
theorem RunInv.since_eq_none {p : Prim} (h : RunInv s c point l) (hp : (script s.params c)[point]? = some p)
    (hd : ∀ us, p ≠ .delay us) : l.since = none := by
  refine Option.eq_none_iff_forall_ne_some.2 fun t0 ht => ?_
  obtain ⟨-, us, hus⟩ := h.delay t0 ht
  exact hd us (Option.some.inj (hp.symm.trans hus))

/-- Going to a later point, with no more pulses left and no delay under way. -/
theorem RunInv.jump (h : RunInv s c point l) (hpt : point' ≠ 0) (hin : insideLoop c point' = true → 0 < l'.n)
    (hn : l'.n ≤ l.n) (hfwd : l'.fwd = l.fwd) (hsince : l'.since = none) (ht : l'.t ≤ t.clock) :
    RunInv t c point' l' :=
  ⟨h.wellFormed, hn.trans h.count, hfwd.trans h.dir, fun h0 => absurd h0 hpt, hin, ht,
    fun t0 h0 => by rw [hsince] at h0; cases h0⟩

/-- Going on by one from a primitive that is no loop test. -/
theorem RunInv.next {p : Prim} (h : RunInv s c point l) (hp : (script s.params c)[point]? = some p)
    (hw : ∀ exit, p ≠ .whileMore exit) (hn : l'.n = l.n) (hfwd : l'.fwd = l.fwd) (hsince : l'.since = none)
    (ht : l'.t ≤ t.clock) : RunInv t c (point + 1) l' := by
  refine h.jump (Nat.succ_ne_zero _) (fun hin => ?_) hn.le hfwd hsince ht
  rcases insideLoop_of_succ s.params hin with hin | ⟨exit, hx⟩
  · exact hn ▸ h.inside hin
  · exact absurd (Option.some.inj (hp.symm.trans hx)) (hw exit)

/-- A delay begins at the clock's value, at the same point (R15). -/
theorem RunInv.begin {us : Nat} (h : RunInv s c point l) (hp : (script s.params c)[point]? = some (.delay us)) :
    RunInv (runAt c point { l with since := some s.clock } s) c point { l with since := some s.clock } :=
  { h with delay := fun t0 ht => ⟨by cases ht; exact le_refl _, us, hp⟩ }

/-- One primitive keeps what the phase holds (R44). -/
theorem perform_phaseInv {p : Prim} (hph : s.phase = .run c point l) (h : RunInv s c point l)
    (hp : (script s.params c)[point]? = some p) : (perform c point l s p).PhaseInv := by
  have hc : s.clock ≤ (perform c point l s p).clock := by
    rcases perform_clock c point l s p with hc | hc <;> simp [hc]
  have hpoll : (sampleClock s).PhaseInv := ((phaseInv_run hph).2 h).mono rfl (by simp) rfl rfl rfl
  cases p with
  | raise code => exact phaseInv_idle rfl
  | delay us =>
    simp only [perform] at hc ⊢
    split <;> [skip; split]
    · exact (phaseInv_run rfl).2 (h.begin hp)
    · refine (phaseInv_run rfl).2 ?_
      exact h.next hp (by simp) rfl rfl rfl (h.release.trans (clock_le_nextClock s))
    · exact hpoll
  | waitPace =>
    have hs := h.since_eq_none hp (by simp)
    simp only [perform]
    split
    · refine (phaseInv_run rfl).2 ?_
      exact h.next hp (by simp) rfl rfl hs (le_refl _)
    · exact hpoll
  | whileMore exit =>
    have hs := h.since_eq_none hp (by simp)
    obtain ⟨rfl, hloop⟩ := script_whileMore hp
    refine (phaseInv_run rfl).2 ?_
    refine h.jump ?_ ?_ le_rfl rfl hs h.release
    · rcases hloop with ⟨n, -, rfl⟩ | ⟨n, i, -, rfl⟩ <;> split <;> decide
    · rcases hloop with ⟨n, rfl, rfl⟩ | ⟨n, i, rfl, rfl⟩ <;> split <;> simp [insideLoop] <;> omega
  | again target =>
    have hs := h.since_eq_none hp (by simp)
    obtain ⟨rfl, hloop⟩ := script_again hp
    refine (phaseInv_run rfl).2 ?_
    refine h.jump one_ne_zero ?_ (Nat.sub_le _ _) rfl hs h.release
    rcases hloop with ⟨n, rfl⟩ | ⟨n, i, rfl⟩ <;> simp [insideLoop]
  | pinWrite | cfgOutLow | cfgInPullup | advance | stamp | loadCode | setMode | setEnabled | setInterval | result
  | resultEnabled | resultFault =>
    refine (phaseInv_run rfl).2 ?_
    exact h.next hp (by simp) rfl rfl (h.since_eq_none hp (by simp)) (h.release.trans hc)

end

/-! ## A move, an access and a step -/

/-- A move of the block keeps the invariant. -/
theorem blockMove_inv {s : State} (h : s.Inv) : (blockMove s).Inv := by
  have hstop : ∀ stop, (blockMove s).clockStop = some stop → (blockMove s).clock ≤ stop := by
    intro stop hs
    rw [(blockMove_kept s).clockStop] at hs
    rcases blockMove_clock s with hc | hc
    · exact hc ▸ h.clockStop stop hs
    · exact hc ▸ nextClock_le_stop hs (h.clockStop stop hs)
  suffices hr : (blockMove s).Sound ∧ (blockMove s).PhaseInv from hr.1.inv hstop hr.2
  cases hph : s.phase with
  | idle =>
    rw [blockMove, hph]
    exact ⟨h.sound.sampleClock, phaseInv_idle hph⟩
  | start w a0 a1 =>
    simp only [blockMove, hph]
    split
    · exact ⟨h.sound.raiseErr _, phaseInv_idle rfl⟩
    · next c hd =>
      refine ⟨h.sound.runAt _ _ _, (phaseInv_run rfl).2 ?_⟩
      refine ⟨wellFormed_of_decode hd, le_rfl, rfl, fun _ => rfl, ?_, ?_, ?_⟩
      · cases c <;> simp [insideLoop]
      · cases c <;> simp [initialLocals]
      · cases c <;> simp [initialLocals]
  | run c point l =>
    have hr := (phaseInv_run hph).1 h.phase
    simp only [blockMove, hph]
    split
    · exact ⟨h.sound.finish, phaseInv_idle rfl⟩
    · next p hp => exact ⟨perform_sound h.sound c point hr.release p, perform_phaseInv hph hr hp⟩

/-- A command performed whole keeps the invariant while the clock goes on (R237). -/
theorem exec_inv {i : Instr} {s t : State} (h : s.Inv) (hc : s.clockStop = none) (he : exec i s = .next t) : t.Inv := by
  obtain ⟨hk, hidle⟩ := exec_kept he
  refine (exec_sound h.sound he).inv (fun stop hs => ?_) (phaseInv_idle hidle)
  rw [hk.clockStop, hc] at hs
  cases hs

theorem blockStep_inv {s t : State} (h : s.Inv) (hst : blockStep s = .next t) : t.Inv := by
  unfold blockStep at hst
  split at hst
  · injection hst with hst; subst hst
    simpa [blockMove, *] using blockMove_inv h
  · split at hst
    · split at hst
      · exact exec_inv h ‹_› hst
      · injection hst with hst; exact hst ▸ blockMove_inv h
    · injection hst with hst; subst hst
      exact (h.sound.raiseErr _).inv h.clockStop (phaseInv_idle rfl)
  · injection hst with hst; exact hst ▸ blockMove_inv h

/-- A host access keeps the invariant, whatever the block is doing (R72 to R77). -/
theorem hostAccess_inv {s : State} (h : s.Inv) (a : Access) : (hostAccess a s).Inv := by
  obtain he | ⟨v, he⟩ | ⟨-, -, he⟩ | ⟨v, he⟩ | ⟨-, -, he⟩ | ⟨hp, v, ⟨-, he⟩ | ⟨-, he⟩ | ⟨-, he⟩⟩ :=
    hostAccess_cases a s <;> rw [he]
  case inr.inr.inr.inr.inl =>
    refine { h with faultSet := ?_ }
    simp only [raiseFault]
    split
    · exact h.faultSet
    · next hm => exact List.nodup_append.2 ⟨h.faultSet, by simp, by grind⟩
  case inr.inr.inr.inr.inr.inl => exact { h with phase := ⟨rfl, rfl⟩ }
  case inr.inr.inr.inr.inr.inr.inl => exact { h with phase := phaseInv_idle hp }
  case inr.inr.inr.inr.inr.inr.inr => exact { h with phase := phaseInv_idle hp }
  all_goals exact { h with }

/-- Settles O9: a step is the block's, which `blockStep_inv` and `blockMove_inv` cover, or a turn of the host. -/
theorem stepKeepsTheInvariant : Obligations.StepKeepsTheInvariant := by
  intro s t h hst
  have hturn : ∀ rest, ({ s with host := rest } : State).Inv := fun rest => { h with }
  obtain hb | ⟨a, rest, -, rfl⟩ | ⟨rest, -, rfl⟩ | ⟨rest, -, -, rfl⟩ := step_cases hst
  · exact blockStep_inv h hb
  · exact hostAccess_inv (hturn rest) a
  · exact blockMove_inv (hturn rest)
  · exact { h with }

end Sys2Proof.Machine

/-! PROOF. What a command and a step leave as it was, field by field. -/

namespace Sys2Proof.Machine

/-! ## The frame of a command, but for the pins (R50) -/

section
variable {i : Instr} {s t : State} (he : exec i s = .next t)
include he

theorem exec_pulseInterval (hi : ∀ rpm, i ≠ .setSpeed rpm) : t.pulseInterval = s.pulseInterval := by
  cases i <;> (injection he with he; subst he)
  case setSpeed rpm => exact absurd rfl (hi rpm)
  all_goals simp [apply_ite State.pulseInterval]

theorem exec_position (hi : ∀ c, i ≠ .step c) : t.position = s.position ∧ t.lastPulseTime = s.lastPulseTime := by
  cases i <;> (injection he with he; subst he)
  case step c => exact absurd rfl (hi c)
  all_goals simp [apply_ite State.position, apply_ite State.lastPulseTime]

theorem exec_microstepMode (hi : ∀ m, i ≠ .setMode m) : t.microstepMode = s.microstepMode := by
  cases i <;> (injection he with he; subst he)
  case setMode m => exact absurd rfl (hi m)
  all_goals simp [apply_ite State.microstepMode]

theorem exec_enabled (hi : ∀ b, i ≠ .enable b) (hc : i ≠ .clearFault) : t.enabled = s.enabled := by
  cases i <;> (injection he with he; subst he)
  case enable b => exact absurd rfl (hi b)
  case clearFault => exact absurd rfl hc
  all_goals simp [apply_ite State.enabled]

end

/-! ## The pins after a command -/

theorem pinCfgOutLow_pins (s : State) :
    (pinCfgOutLow s).pins = if s.hasPin .en then { s.pins with en := .outLow } else s.pins := by
  rw [pinCfgOutLow, apply_ite State.pins]; rfl

theorem pinCfgInPullup_pins (s : State) :
    (pinCfgInPullup s).pins = if s.hasPin .en then { s.pins with en := .inPullup } else s.pins := by
  rw [pinCfgInPullup, apply_ite State.pins]; rfl

/-- The pins after a standby body (R196). -/
theorem standbyBody_pins (b : Bool) (s : State) :
    (standbyBody b s).pins
      = if s.params.present.stby then
          if b then { s.pins with stby := false }
          else latchedPins s.params.present (s.params.latch.code s.microstepMode) s.pins
        else s.pins := by
  have hp : s.hasPin .stby = s.params.present.stby := rfl
  rw [standbyBody, hp]
  split <;> [skip; rfl]
  cases b with
  | true => simp_all [pinWrite_pins, OutPin.pin, Pins.setLevel]
  | false => exact latchSequence_pins _ s

/-- The pins after a command of `n` pulses in a direction (R141, R160). -/
def steppedPins (present : Present) (fwd : Bool) (n : Nat) (p : Pins) : Pins :=
  { p with
    dir := if present.dir then fwd else p.dir
    step := if present.step ∧ n ≠ 0 then true else p.step }

/-- The pins that each command leaves. -/
def commandPins (i : Instr) (s : State) : Pins :=
  match i with
  | .setSpeed _ | .msps _ | .isEnabled | .isFault => s.pins
  | .step count | .stepFixed count _ =>
    if count.isCount then steppedPins s.params.present (isForward count) (pulseCount count) s.pins else s.pins
  | .setMode m =>
    if s.params.present.stby then latchedPins s.params.present (s.params.latch.code m) s.pins else s.pins
  | .enable b => if s.params.present.en then { s.pins with en := if b then .inPullup else .outLow } else s.pins
  | .clearFault => if s.params.present.en then { s.pins with en := .inPullup } else s.pins
  | .standby true => if s.params.present.stby then { s.pins with stby := false } else s.pins
  | .standby false | .reset =>
    if s.params.present.stby then latchedPins s.params.present (s.params.latch.code s.microstepMode) s.pins
    else s.pins

theorem exec_pins {i : Instr} {s t : State} (he : exec i s = .next t) : t.pins = commandPins i s := by
  have hen : s.hasPin .en = s.params.present.en := rfl
  have hstby : s.hasPin .stby = s.params.present.stby := rfl
  have hdir : s.hasPin OutPin.dir.pin = s.params.present.dir := rfl
  have hstep : s.hasPin .step = s.params.present.step := rfl
  cases i <;> (injection he with he; subst he)
  case setSpeed | msps | isEnabled => rfl
  case step count =>
    simp only [commandPins, apply_ite State.pins, complete_pins, raiseErr_pins, pacedPulses_pins, pinWrite_pins,
      pinWrite_hasPin, hdir, hstep, steppedPins]
    split_ifs <;> simp_all [Pins.setLevel]
  case stepFixed count interval =>
    simp only [commandPins, apply_ite State.pins, complete_pins, raiseErr_pins, fixedPulses_pins, pinWrite_pins,
      pinWrite_hasPin, hdir, hstep, steppedPins]
    split_ifs <;> simp_all [Pins.setLevel]
  case setMode m =>
    simp only [commandPins, hstby]
    split <;> simp [latchSequence_pins]
  case enable b =>
    simp only [commandPins, hen]
    cases b <;> split <;> simp_all [pinCfgInPullup_pins, pinCfgOutLow_pins]
  case isFault => simp [commandPins, apply_ite State.pins]
  case clearFault =>
    simp only [commandPins, hen]
    split <;> simp_all [pinCfgInPullup_pins, pinCfgOutLow_pins]
  case standby b => cases b <;> simp [commandPins, standbyBody_pins]
  case reset =>
    simp only [commandPins, complete_pins, standbyBody_pins, delayUs_pins, delayUs_params, standbyBody_params,
      delayUs_microstepMode, standbyBody_microstepMode]
    split <;> simp_all [latchedPins]

/-- A command that drives no pin leaves the trace (R50). -/
theorem exec_trace {i : Instr} {s t : State} (he : exec i s = .next t)
    (hi : (∃ rpm, i = .setSpeed rpm) ∨ (∃ m, i = .msps m) ∨ i = .isEnabled ∨ i = .isFault) : t.trace = s.trace := by
  obtain ⟨rpm, rfl⟩ | ⟨m, rfl⟩ | rfl | rfl := hi <;> (injection he with he; subst he)
  case inr.inr.inr => simp [apply_ite State.trace]
  all_goals rfl

/-! ## The latch role (R45) -/

theorem latchRole_present {s : State} (h : s.params.present.stby = true) :
    s.latchRole = if s.pins.stby then .normal else .programming := by
  have hp : s.hasPin OutPin.stby.pin = true := h
  cases hl : s.pins.stby <;> simp [State.latchRole, State.level?, hp, Pins.level, hl]

theorem latchRole_absent {s : State} (h : s.params.present.stby = false) : s.latchRole = .normal := by
  have hp : s.hasPin OutPin.stby.pin = false := h
  simp [State.latchRole, State.level?, hp]

/-- Settles O38: by the pins that each command leaves, of which the latch role reads STBY. -/
theorem standbyIsLeftByTheLatchSequence : Obligations.StandbyIsLeftByTheLatchSequence := by
  refine ⟨fun s => latchRole_absent, fun i s t hp he => ?_⟩
  have ht : t.params.present.stby = true := by rw [(exec_kept he).1.params, hp]
  rw [latchRole_present ht, latchRole_present hp, exec_pins he]
  cases i with
  | setSpeed | msps | isEnabled | isFault => rfl
  | step count | stepFixed count interval =>
    simp only [commandPins]
    split <;> rfl
  | setMode m => simp [commandPins, hp, latchedPins]
  | enable b =>
    simp only [commandPins]
    split <;> rfl
  | clearFault =>
    simp only [commandPins]
    split <;> rfl
  | standby b => cases b <;> simp [commandPins, hp, latchedPins]
  | reset => simp [commandPins, hp, latchedPins]

/-! ## R50's table -/

/-- EN's configuration is ENABLE's and CLEAR_FAULT's. -/
theorem commandPins_en {i : Instr} (s : State) (hi : ∀ b, i ≠ .enable b) (hc : i ≠ .clearFault) :
    (commandPins i s).en = s.pins.en := by
  cases i with
  | enable b => exact absurd rfl (hi b)
  | clearFault => exact absurd rfl hc
  | standby b => cases b <;> simp [commandPins, apply_ite Pins.en, latchedPins]
  | setSpeed | msps | isEnabled | isFault | step | stepFixed | setMode | reset =>
    simp [commandPins, apply_ite Pins.en, latchedPins, steppedPins]

/-- STBY is SET_MODE's, STANDBY's and RESET's. -/
theorem commandPins_stby {i : Instr} (s : State) (hm : ∀ m, i ≠ .setMode m) (hs : ∀ b, i ≠ .standby b)
    (hr : i ≠ .reset) : (commandPins i s).stby = s.pins.stby := by
  cases i with
  | setMode m => exact absurd rfl (hm m)
  | standby b => exact absurd rfl (hs b)
  | reset => exact absurd rfl hr
  | setSpeed | msps | isEnabled | isFault | step | stepFixed | enable | clearFault =>
    simp [commandPins, apply_ite Pins.stby, steppedPins]

/-- MS1 and MS2 are those of the commands that run a latch sequence. -/
theorem commandPins_ms {i : Instr} (s : State) (hm : ∀ m, i ≠ .setMode m) (hs : i ≠ .standby false) (hr : i ≠ .reset) :
    (commandPins i s).ms1 = s.pins.ms1 ∧ (commandPins i s).ms2 = s.pins.ms2 := by
  cases i with
  | setMode m => exact absurd rfl (hm m)
  | standby b =>
    cases b with
    | false => exact absurd rfl hs
    | true => simp [commandPins, apply_ite Pins.ms1, apply_ite Pins.ms2]
  | reset => exact absurd rfl hr
  | setSpeed | msps | isEnabled | isFault | step | stepFixed | enable | clearFault =>
    simp [commandPins, apply_ite Pins.ms1, apply_ite Pins.ms2, steppedPins]

/-- STEP and DIR are those of the same commands and of STEP and STEP_FIXED. -/
theorem commandPins_stepDir {i : Instr} (s : State) (hm : ∀ m, i ≠ .setMode m) (hs : i ≠ .standby false)
    (hr : i ≠ .reset) (hp : ∀ c, i ≠ .step c) (hf : ∀ c w, i ≠ .stepFixed c w) :
    (commandPins i s).step = s.pins.step ∧ (commandPins i s).dir = s.pins.dir := by
  cases i with
  | setMode m => exact absurd rfl (hm m)
  | standby b =>
    cases b with
    | false => exact absurd rfl hs
    | true => simp [commandPins, apply_ite Pins.step, apply_ite Pins.dir]
  | reset => exact absurd rfl hr
  | step c => exact absurd rfl (hp c)
  | stepFixed c w => exact absurd rfl (hf c w)
  | setSpeed | msps | isEnabled | isFault | enable | clearFault =>
    simp [commandPins, apply_ite Pins.step, apply_ite Pins.dir]

/-- Settles O39: one lemma for each row of R50's table, and `exec_kept` for what no command writes. -/
theorem commandsWriteOnlyTheirStateOfTheTable : Obligations.CommandsWriteOnlyTheirStateOfTheTable := by
  intro i s t he
  obtain ⟨hk, hidle⟩ := exec_kept he
  have hpins := exec_pins he
  refine ⟨exec_pulseInterval he, exec_position he, exec_microstepMode he, fun hb hc => ⟨exec_enabled he hb hc, ?_⟩,
    fun hm hs hr => ?_, fun hm hs hr => ?_, hk.arg0, hk.arg1, hk.params, hk.faults, hk.mark, hk.env, hk.clockStop,
    hk.host, hk.data, hk.observed, hidle⟩
  · rw [hpins, commandPins_en s hb hc]
  · rw [hpins, commandPins_stby s hm hs hr]
  · obtain ⟨h1, h2⟩ := commandPins_ms s hm hs hr
    refine ⟨by rw [hpins, h1], by rw [hpins, h2], fun hp hf => ?_⟩
    obtain ⟨hstep, hdir⟩ := commandPins_stepDir s hm hs hr hp hf
    refine ⟨by rw [hpins, hstep], by rw [hpins, hdir], fun hst hb hc => exec_trace he ?_⟩
    cases i <;> simp_all

/-! ## A step (R30, R38, R39) -/

/-- What a host access never changes. -/
theorem hostAccess_fixed (a : Access) (s : State) :
    (hostAccess a s).params = s.params ∧ (hostAccess a s).env = s.env
      ∧ (hostAccess a s).clockStop = s.clockStop := by
  obtain he | ⟨v, he⟩ | ⟨-, -, he⟩ | ⟨v, he⟩ | ⟨-, -, he⟩ | ⟨-, v, ⟨-, he⟩ | ⟨-, he⟩ | ⟨-, he⟩⟩ :=
    hostAccess_cases a s <;> rw [he] <;> exact ⟨rfl, rfl, rfl⟩

/-- Settles O13: what the block does is `Kept`, and a turn of the host leaves these fields. -/
theorem parametersNeverChange : Obligations.ParametersNeverChange := by
  intro s t hst
  obtain hb | ⟨a, rest, -, rfl⟩ | ⟨rest, -, rfl⟩ | ⟨rest, -, -, rfl⟩ := step_cases hst
  · have hk := blockStep_kept hb
    exact ⟨hk.params, hk.env, hk.clockStop⟩
  · exact hostAccess_fixed a _
  · have hk := blockMove_kept { s with host := rest }
    exact ⟨hk.params, hk.env, hk.clockStop⟩
  · exact ⟨rfl, rfl, rfl⟩

/-- A host access changes ARG0 only as a write of that value to 0x04 while IDLE, and ARG1 likewise (R38, R39, R75). -/
theorem hostAccess_args (a : Access) (s : State) :
    ((hostAccess a s).arg0 ≠ s.arg0 → s.phase = .idle ∧ a = .write 0x04 4 (hostAccess a s).arg0)
      ∧ ((hostAccess a s).arg1 ≠ s.arg1 → s.phase = .idle ∧ a = .write 0x08 4 (hostAccess a s).arg1) := by
  obtain he | ⟨v, he⟩ | ⟨-, -, he⟩ | ⟨v, he⟩ | ⟨-, -, he⟩ | ⟨hp, v, ⟨-, he⟩ | ⟨ha, he⟩ | ⟨ha, he⟩⟩ :=
    hostAccess_cases a s <;> rw [he]
  case inr.inr.inr.inr.inr.inr.inl => exact ⟨fun _ => ⟨hp, ha⟩, fun h => absurd rfl h⟩
  case inr.inr.inr.inr.inr.inr.inr => exact ⟨fun h => absurd rfl h, fun _ => ⟨hp, ha⟩⟩
  all_goals exact ⟨fun h => absurd rfl h, fun h => absurd rfl h⟩

/-- Settles O17: what the block does keeps both registers, and of the host's turns only such an access writes them. -/
theorem onlyTheHostWritesTheArgRegisters : Obligations.OnlyTheHostWritesTheArgRegisters := by
  intro s t hst
  obtain hb | ⟨a, rest, hh, rfl⟩ | ⟨rest, -, rfl⟩ | ⟨rest, -, -, rfl⟩ := step_cases hst
  · have hk := blockStep_kept hb
    exact ⟨fun h => absurd hk.arg0 h, fun h => absurd hk.arg1 h⟩
  · obtain ⟨h0, h1⟩ := hostAccess_args a { s with host := rest }
    refine ⟨fun h => ?_, fun h => ?_⟩
    · obtain ⟨hp, ha⟩ := h0 h
      exact ⟨hp, rest, by rw [hh, ← ha]⟩
    · obtain ⟨hp, ha⟩ := h1 h
      exact ⟨hp, rest, by rw [hh, ← ha]⟩
  · have hk := blockMove_kept { s with host := rest }
    exact ⟨fun h => absurd hk.arg0 h, fun h => absurd hk.arg1 h⟩
  · exact ⟨fun h => absurd rfl h, fun h => absurd rfl h⟩

end Sys2Proof.Machine

/-! PROOF. The sequencer against `exec`. `State.outcome` performs what is left of a command at once, its waits left
out; a move of the block does not change it, times and phase apart, and at the start it is what `exec` answers. -/

namespace Sys2Proof.Machine

/-! ## States with their times and their phase left out -/

/-- A state with its times and its phase left out. -/
def State.settled (s : State) : State := { s.untimed with phase := .idle }

/-- Two states that agree settled and in their phase agree untimed. -/
theorem untimed_eq_of_settled {s t : State} (h : s.settled = t.settled) (hp : s.phase = t.phase) :
    s.untimed = t.untimed := by
  have hs : ∀ u : State, u.untimed = { u.settled with phase := u.phase } := fun u => rfl
  rw [hs s, hs t, h, hp]

@[simp] theorem settled_sampleClock (s : State) : (sampleClock s).settled = s.settled := rfl
@[simp] theorem settled_delayUs (n : Nat) (s : State) : (delayUs n s).settled = s.settled := rfl
@[simp] theorem settled_waitPace (s : State) : (waitPace s).settled = s.settled := rfl
@[simp] theorem settled_runAt (c : Instr) (point : Nat) (l : Locals) (s : State) :
    (runAt c point l s).settled = s.settled := rfl
@[simp] theorem settled_stamp (t : Nat) (s : State) : ({ s with lastPulseTime := t } : State).settled = s.settled :=
  rfl

/-- A pin event, its time left out. -/
theorem settled_recordEvent (pin : Pin) (what : PinAction) (pins : Pins) (s : State) :
    (recordEvent pin what { sampleClock s with pins := pins }).settled
      = recordEvent pin what { s.settled with pins := pins } := by
  simp [State.settled, State.untimed, recordEvent]

theorem settled_params {s t : State} (h : s.settled = t.settled) : s.params = t.params :=
  congrArg (fun u => u.params) h

/-! What an operation does, settled, depends on the settled state alone. -/

theorem settled_congr {f : State → State} (g : State → State) (hf : ∀ u, (f u).settled = g u.settled) {s t : State}
    (h : s.settled = t.settled) : (f s).settled = (f t).settled := by
  rw [hf, hf, h]

section
variable {s t : State} (h : s.settled = t.settled)
include h

theorem settled_pinWrite (o : OutPin) (v : Bool) : (pinWrite o v s).settled = (pinWrite o v t).settled :=
  settled_congr
    (fun u => if u.hasPin o.pin then recordEvent o.pin (.drive v) { u with pins := u.pins.setLevel o v } else u)
    (fun u => by rw [pinWrite, apply_ite State.settled, settled_recordEvent]; rfl) h

theorem settled_pinCfgOutLow : (pinCfgOutLow s).settled = (pinCfgOutLow t).settled :=
  settled_congr
    (fun u =>
      if u.hasPin .en then recordEvent .en .cfgOutLow { u with pins := { u.pins with en := .outLow } } else u)
    (fun u => by rw [pinCfgOutLow, apply_ite State.settled, settled_recordEvent]; rfl) h

theorem settled_pinCfgInPullup : (pinCfgInPullup s).settled = (pinCfgInPullup t).settled :=
  settled_congr
    (fun u =>
      if u.hasPin .en then recordEvent .en .cfgInPullup { u with pins := { u.pins with en := .inPullup } } else u)
    (fun u => by rw [pinCfgInPullup, apply_ite State.settled, settled_recordEvent]; rfl) h

theorem settled_advance (fwd : Bool) : (advance fwd s).settled = (advance fwd t).settled :=
  settled_congr (advance fwd) (fun u => by cases fwd <;> rfl) h

theorem settled_complete (v : Word) : (complete v s).settled = (complete v t).settled :=
  settled_congr (complete v) (fun _ => rfl) h

theorem settled_raiseErr (code : ErrCode) : (raiseErr code s).settled = (raiseErr code t).settled :=
  settled_congr (raiseErr code) (fun _ => rfl) h

theorem settled_finish : (finish s).settled = (finish t).settled :=
  settled_congr finish (fun _ => rfl) h

/-- A pulse without its times: the two writes (R143). -/
theorem settled_pulse : (pulse s).settled = (pinWrite .step true (pinWrite .step false t)).settled := by
  unfold pulse
  refine settled_pinWrite ?_ .step true
  rw [settled_delayUs]
  exact settled_pinWrite h .step false

/-- A paced pulse without its times: the two writes, then `Advance` (R141). -/
theorem settled_pacedPulse (fwd : Bool) :
    (pacedPulse fwd s).settled = (advance fwd (pinWrite .step true (pinWrite .step false t))).settled := by
  rw [pacedPulse, settled_stamp]
  exact settled_advance (settled_pulse (by rw [settled_waitPace, h])) fwd

/-- A fixed pulse without its times: the two writes (R160). -/
theorem settled_fixedPulse (w : Nat) :
    (fixedPulse w s).settled = (pinWrite .step true (pinWrite .step false t)).settled := by
  rw [fixedPulse, settled_delayUs]
  exact settled_pulse h

theorem settled_driveCode (code : BitVec 4) : (driveCode code s).settled = (driveCode code t).settled := by
  unfold driveCode
  exact settled_pinWrite (settled_pinWrite (settled_pinWrite (settled_pinWrite h _ _) _ _) _ _) _ _

end

theorem settled_pacedPulses {s t : State} (h : s.settled = t.settled) (fwd : Bool) (n : Nat) :
    (pacedPulses fwd n s).settled = (pacedPulses fwd n t).settled := by
  induction n generalizing s t with
  | zero => exact h
  | succ n ih => exact ih ((settled_pacedPulse h fwd).trans (settled_pacedPulse rfl fwd).symm)

theorem settled_fixedPulses {s t : State} (h : s.settled = t.settled) (w n : Nat) :
    (fixedPulses w n s).settled = (fixedPulses w n t).settled := by
  induction n generalizing s t with
  | zero => exact h
  | succ n ih => exact ih ((settled_fixedPulse h w).trans (settled_fixedPulse rfl w).symm)

/-- The latch sequence without its settle wait (R177). -/
theorem settled_latchSequence (m : MicrostepMode) (s : State) :
    (latchSequence m s).settled
      = (pinWrite .stby true (driveCode (s.params.latch.code m) (pinWrite .stby false s))).settled := by
  unfold latchSequence
  exact settled_pinWrite (settled_driveCode (settled_delayUs Config.settleUs (pinWrite .stby false s)) _) .stby true

/-! ## What is left of a command, performed at once -/

/-- What a primitive does to the state when its wait, if it is one, is left out; nothing for a jump, a raise and the
assignments to locals. -/
def effectOf (l : Locals) (s : State) : Prim → State
  | .pinWrite o v => pinWrite o (v.value l) s
  | .cfgOutLow => pinCfgOutLow s
  | .cfgInPullup => pinCfgInPullup s
  | .advance => advance l.fwd s
  | .setMode m => { s with microstepMode := m }
  | .setEnabled b => { s with enabled := b }
  | .setInterval rpm => { s with pulseInterval := BitVec.ofNat 32 (intervalFor s.params.spr s.microstepMode rpm) }
  | .result v => { s with result := v }
  | .resultEnabled => { s with result := boolWord s.enabled }
  | .resultFault => { s with result := boolWord (!enSample s), draws := s.draws + 1 }
  | .delay _ | .waitPace | .stamp | .loadCode _ | .whileMore _ | .again _ | .raise _ => s

/-- What a primitive does to the locals when its wait is left out: `code` alone is written. -/
def localsAfter (l : Locals) (s : State) : Prim → Locals
  | .loadCode m => { l with code := s.params.latch.code (m.mode s) }
  | .pinWrite _ _ | .cfgOutLow | .cfgInPullup | .delay _ | .waitPace | .advance | .stamp | .whileMore _ | .again _
  | .setMode _ | .setEnabled _ | .setInterval _ | .result _ | .resultEnabled | .resultFault | .raise _ => l

/-- A loop with `n` pulses left, from its test to the command's end (R141, R160). -/
def loopFrom (c : Instr) (fwd : Bool) (n : Nat) (s : State) : State :=
  match c with
  | .step _ => complete 0#32 (pacedPulses fwd n s)
  | .stepFixed _ interval => complete 0#32 (fixedPulses (fixedWaitUs s.params interval) n s)
  | .setSpeed _ | .msps _ | .setMode _ | .enable _ | .isEnabled | .isFault | .clearFault | .standby _ | .reset => s

/-- A straight run of primitives performed at once, up to a jump, which is followed to the command's end. -/
def performAll (loop : Nat → State → State) (l : Locals) (s : State) : List Prim → State
  | [] => finish s
  | .whileMore _ :: _ => loop l.n s
  | .again _ :: _ => loop (l.n - 1) s
  | .raise code :: _ => raiseErr code s
  | p :: ps => performAll loop (localsAfter l s p) (effectOf l s p) ps

/-- The locals with the clock values left out. -/
def Locals.untimed (l : Locals) : Locals := { l with t := 0, since := none }

/-- What is left of a command at a point, performed at once. -/
def remaining (c : Instr) (point : Nat) (l : Locals) (s : State) : State :=
  performAll (loopFrom c l.fwd) l.untimed s ((script s.params c).drop point)

/-- The state in which what the block is doing ends. -/
def State.outcome (s : State) : State :=
  match s.phase with
  | .idle => s
  | .start w a0 a1 =>
    match decode w a0 a1 with
    | .error _ => raiseErr .illegal s
    | .ok c => remaining c 0 (initialLocals c) s
  | .run c point l => remaining c point l s

theorem outcome_idle {s : State} (h : s.phase = .idle) : s.outcome = s := by simp [State.outcome, h]

theorem outcome_run {s : State} {c : Instr} {point : Nat} {l : Locals} (h : s.phase = .run c point l) :
    s.outcome = remaining c point l s := by simp [State.outcome, h]

theorem outcome_start_ok {s : State} {w a0 a1 : Word} {c : Instr} (h : s.phase = .start w a0 a1)
    (hd : decode w a0 a1 = .ok c) : s.outcome = remaining c 0 (initialLocals c) s := by simp [State.outcome, h, hd]

theorem outcome_start_error {s : State} {w a0 a1 : Word} {e : Illegal} (h : s.phase = .start w a0 a1)
    (hd : decode w a0 a1 = .error e) : s.outcome = raiseErr .illegal s := by simp [State.outcome, h, hd]

theorem Source.value_untimed (l : Locals) (v : Source) : v.value l.untimed = v.value l := by cases v <;> rfl

theorem effectOf_untimed (l : Locals) (s : State) (p : Prim) : effectOf l.untimed s p = effectOf l s p := by
  cases p with
  | pinWrite o v => simp only [effectOf, Source.value_untimed]
  | _ => rfl

theorem localsAfter_untimed (l : Locals) (s : State) (p : Prim) :
    localsAfter l.untimed s p = (localsAfter l s p).untimed := by
  cases p <;> rfl

@[simp] theorem effectOf_params (l : Locals) (s : State) (p : Prim) : (effectOf l s p).params = s.params := by
  cases p <;> simp [effectOf]

@[simp] theorem localsAfter_fwd (l : Locals) (s : State) (p : Prim) : (localsAfter l s p).fwd = l.fwd := by
  cases p <;> rfl

/-- A primitive that is no jump and no raise is performed, and then what follows it. -/
theorem performAll_cons {p : Prim} (hj : p.isJump = false) (hr : ∀ code, p ≠ .raise code) (loop : Nat → State → State)
    (l : Locals) (s : State) (ps : List Prim) :
    performAll loop l s (p :: ps) = performAll loop (localsAfter l s p) (effectOf l s p) ps := by
  cases p with
  | raise code => exact absurd rfl (hr code)
  | whileMore | again => cases hj
  | _ => rfl

theorem drop_of_getElem? {α : Type} {xs : List α} {i : Nat} {x : α} (h : xs[i]? = some x) :
    xs.drop i = x :: xs.drop (i + 1) := by
  rw [List.drop_eq_getElem?_toList_append, h]; rfl

theorem remaining_next {c : Instr} {point : Nat} {s : State} {p : Prim} (hp : (script s.params c)[point]? = some p)
    (hj : p.isJump = false) (hr : ∀ code, p ≠ .raise code) (l : Locals) :
    remaining c point l s = remaining c (point + 1) (localsAfter l s p) (effectOf l s p) := by
  rw [remaining, drop_of_getElem? hp, performAll_cons hj hr, localsAfter_untimed, effectOf_untimed,
    remaining, localsAfter_fwd, effectOf_params]

/-! ## Only the settled state matters -/

/-- A primitive's effect, but for the level that IS_FAULT samples, which is a draw. -/
theorem settled_effect {s t : State} (h : s.settled = t.settled) (l : Locals) {p : Prim} (hp : p ≠ .resultFault) :
    (effectOf l s p).settled = (effectOf l t p).settled := by
  have hsame : (∀ u, (effectOf l u p).settled = effectOf l u.settled p) →
      (effectOf l s p).settled = (effectOf l t p).settled := fun hu =>
    settled_congr (f := fun u => effectOf l u p) (fun u => effectOf l u p) hu h
  cases p with
  | pinWrite o v => exact settled_pinWrite h o _
  | cfgOutLow => exact settled_pinCfgOutLow h
  | cfgInPullup => exact settled_pinCfgInPullup h
  | advance => exact settled_advance h _
  | setMode | setEnabled | setInterval | result | resultEnabled => exact hsame fun _ => rfl
  | resultFault => exact absurd rfl hp
  | delay | waitPace | stamp | loadCode | whileMore | again | raise => exact h

theorem settled_locals {s t : State} (h : s.settled = t.settled) (l : Locals) (p : Prim) :
    localsAfter l s p = localsAfter l t p := by
  cases p with
  | loadCode m =>
    have hm : m.mode s = m.mode t := (congrArg (fun u => m.mode u) h :)
    simp only [localsAfter, hm, settled_params h]
  | _ => rfl

theorem settled_loopFrom {s t : State} (h : s.settled = t.settled) (c : Instr) (fwd : Bool) (n : Nat) :
    (loopFrom c fwd n s).settled = (loopFrom c fwd n t).settled := by
  cases c with
  | step => exact settled_complete (settled_pacedPulses h fwd n) _
  | stepFixed count interval =>
    simp only [loopFrom, settled_params h]
    exact settled_complete (settled_fixedPulses h _ n) _
  | setSpeed | msps | setMode | enable | isEnabled | isFault | clearFault | standby | reset => exact h

theorem settled_performAll {s t : State} (h : s.settled = t.settled) (c : Instr) (fwd : Bool) (l : Locals)
    {ps : List Prim} (hps : .resultFault ∉ ps) :
    (performAll (loopFrom c fwd) l s ps).settled = (performAll (loopFrom c fwd) l t ps).settled := by
  induction ps generalizing s t l with
  | nil => exact settled_finish h
  | cons p ps ih =>
    obtain ⟨hp, hps⟩ : p ≠ .resultFault ∧ .resultFault ∉ ps := by simpa [eq_comm] using hps
    by_cases hr : ∃ code, p = .raise code
    · obtain ⟨code, rfl⟩ := hr
      exact settled_raiseErr h code
    · cases hj : p.isJump with
      | true =>
        cases p with
        | whileMore | again => exact settled_loopFrom h c fwd _
        | _ => cases hj
      | false =>
        have hr' : ∀ code, p ≠ .raise code := fun code he => hr ⟨code, he⟩
        rw [performAll_cons hj hr', performAll_cons hj hr', settled_locals h]
        exact ih (settled_effect h l hp) _ hps

theorem settled_remaining {s t : State} (h : s.settled = t.settled) {c : Instr} {point : Nat} {l l' : Locals}
    (hl : l.untimed = l'.untimed) (hps : .resultFault ∉ (script s.params c).drop point) :
    (remaining c point l s).settled = (remaining c point l' t).settled := by
  have hfwd : l.fwd = l'.fwd := congrArg (fun k => k.fwd) hl
  unfold remaining
  rw [← settled_params h, ← hfwd, ← hl]
  exact settled_performAll h c _ _ hps

/-- IS_FAULT alone samples EN, and only in its first primitive (R194). -/
theorem resultFault_not_mem {p : Params} {c : Instr} (h : c ≠ .isFault) : .resultFault ∉ script p c := by
  cases c with
  | step | stepFixed => simp [script]
  | setSpeed | msps | setMode | enable | isEnabled | isFault | clearFault | standby | reset =>
    exact fun hm => h ((script_straight p (by simp) (by simp) _ hm).2 rfl)

theorem resultFault_not_mem_drop (p : Params) (c : Instr) (point : Nat) :
    .resultFault ∉ (script p c).drop (point + 1) := by
  by_cases h : c = .isFault
  · subst h
    simp only [script]
    split <;> simp
  · exact fun hm => resultFault_not_mem h (List.mem_of_mem_drop hm)

/-! ## A move of the block does not change the outcome -/

section
variable {s : State} {c : Instr} {point : Nat} {l : Locals} {p : Prim}

/-- A wait that has begun, or whose poll has failed. -/
theorem outcome_stays {t : State} {l' : Locals} (hp : (script s.params c)[point]? = some p) (hf : p ≠ .resultFault)
    (ht : t.phase = .run c point l') (hl : l'.untimed = l.untimed) (h : t.settled = s.settled) :
    t.outcome.settled = (remaining c point l s).settled := by
  rw [outcome_run ht]
  refine settled_remaining h hl ?_
  rw [settled_params h, drop_of_getElem? hp]
  simpa using ⟨hf.symm, resultFault_not_mem_drop _ c point⟩

/-- A primitive that has been performed, with the point moved on. -/
theorem outcome_moves_on {t : State} {l' : Locals} (hp : (script s.params c)[point]? = some p) (hj : p.isJump = false)
    (hr : ∀ code, p ≠ .raise code) (hl : l'.untimed = (localsAfter l s p).untimed)
    (h : t.settled = (effectOf l s p).settled) :
    (runAt c (point + 1) l' t).outcome.settled = (remaining c point l s).settled := by
  rw [outcome_run rfl, remaining_next hp hj hr]
  exact settled_remaining ((settled_runAt c _ l' t).trans h) hl (resultFault_not_mem_drop _ c point)

/-- What is left at a loop's test. -/
theorem remaining_whileMore {exit : Nat} (hp : (script s.params c)[point]? = some (.whileMore exit)) :
    remaining c point l s = loopFrom c l.fwd l.n s := by
  rw [remaining, drop_of_getElem? hp]; rfl

/-- One turn of STEP's loop, and the loop again (R141). -/
theorem remaining_stepTurn (count : Word) (l : Locals) (s : State) :
    remaining (.step count) 2 l s
      = loopFrom (.step count) l.fwd (l.n - 1) (advance l.fwd (pinWrite .step true (pinWrite .step false s))) := rfl

/-- One turn of STEP_FIXED's loop, and the loop again (R160). -/
theorem remaining_stepFixedTurn (count interval : Word) (l : Locals) (s : State) :
    remaining (.stepFixed count interval) 2 l s
      = loopFrom (.stepFixed count interval) l.fwd (l.n - 1) (pinWrite .step true (pinWrite .step false s)) := rfl

theorem loopFrom_stepFixed_succ (count interval : Word) (fwd : Bool) (k : Nat) (s : State) :
    loopFrom (.stepFixed count interval) fwd (k + 1) s
      = loopFrom (.stepFixed count interval) fwd k (fixedPulse (fixedWaitUs s.params interval) s) := by
  simp [loopFrom, fixedPulses]

/-- The loop's test (R141, R160): a turn is made, or the command ends. -/
theorem outcome_whileMore {exit : Nat} (hp : (script s.params c)[point]? = some (.whileMore exit)) :
    (runAt c (if l.n = 0 then exit else point + 1) l s).outcome.settled = (remaining c point l s).settled := by
  rw [remaining_whileMore hp, outcome_run rfl]
  obtain ⟨rfl, ⟨count, rfl, rfl⟩ | ⟨count, interval, rfl, rfl⟩⟩ := script_whileMore hp
  · cases hn : l.n with
    | zero => rfl
    | succ k =>
      rw [if_neg (Nat.succ_ne_zero k), remaining_stepTurn, hn]
      exact settled_loopFrom (t := pacedPulse l.fwd s) (settled_pacedPulse (settled_runAt _ _ _ s).symm _).symm _ _ _
  · cases hn : l.n with
    | zero => rfl
    | succ k =>
      rw [if_neg (Nat.succ_ne_zero k), remaining_stepFixedTurn, hn, loopFrom_stepFixed_succ]
      exact settled_loopFrom (settled_fixedPulse (settled_runAt _ _ _ s).symm _).symm _ _ _

theorem outcome_again {target : Nat} (hp : (script s.params c)[point]? = some (.again target)) :
    (runAt c target { l with n := l.n - 1 } s).outcome.settled = (remaining c point l s).settled := by
  have hr : remaining c point l s = loopFrom c l.fwd (l.n - 1) s := by
    rw [remaining, drop_of_getElem? hp]; rfl
  obtain ⟨rfl, ⟨count, rfl⟩ | ⟨count, interval, rfl⟩⟩ := script_again hp
  · rw [hr, outcome_run rfl, remaining_whileMore (exit := 9) rfl]
    exact settled_loopFrom (settled_runAt _ _ _ s) _ _ _
  · rw [hr, outcome_run rfl, remaining_whileMore (exit := 7) rfl]
    exact settled_loopFrom (settled_runAt _ _ _ s) _ _ _

/-- A primitive leaves the outcome as it is. -/
theorem outcome_perform (hph : s.phase = .run c point l) (hp : (script s.params c)[point]? = some p) :
    (perform c point l s p).outcome.settled = (remaining c point l s).settled := by
  cases p with
  | delay us =>
    simp only [perform]
    split <;> [skip; split]
    · exact outcome_stays hp (by simp) rfl rfl rfl
    · exact outcome_moves_on hp rfl (by simp) rfl rfl
    · exact outcome_stays hp (by simp) hph rfl rfl
  | waitPace =>
    simp only [perform]
    split
    · exact outcome_moves_on hp rfl (by simp) rfl rfl
    · exact outcome_stays hp (by simp) hph rfl rfl
  | whileMore exit => exact outcome_whileMore hp
  | again target => exact outcome_again hp
  | raise code => rw [remaining, drop_of_getElem? hp]; rfl
  | pinWrite | cfgOutLow | cfgInPullup | advance | stamp | loadCode | setMode | setEnabled | setInterval | result
  | resultEnabled | resultFault => exact outcome_moves_on hp rfl (by simp) rfl rfl

end

/-! ## At the start the outcome is what `exec` answers -/

/-- A latch sequence performed at once (R177). -/
theorem performAll_latchScript (loop : Nat → State → State) (l : Locals) (s : State) (m : ModeSource) (ps : List Prim) :
    performAll loop l s (latchScript m ++ ps)
      = performAll loop { l with code := s.params.latch.code (m.mode s) }
          (pinWrite .stby true (driveCode (s.params.latch.code (m.mode s)) (pinWrite .stby false s))) ps := by
  have hm : m.mode (pinWrite .stby false s) = m.mode s := by cases m <;> simp [ModeSource.mode]
  simp [latchScript, performAll, effectOf, localsAfter, Source.value, driveCode, hm]

/-- The standby body without its settle wait (R196). -/
def standbyAtOnce (b : Bool) (s : State) : State :=
  if s.params.present.stby then
    if b then pinWrite .stby false s
    else pinWrite .stby true (driveCode (s.params.latch.code s.microstepMode) (pinWrite .stby false s))
  else s

@[simp] theorem standbyAtOnce_params (b : Bool) (s : State) : (standbyAtOnce b s).params = s.params := by
  unfold standbyAtOnce
  split <;> [split; skip] <;> simp

theorem settled_standbyBody {s t : State} (h : s.settled = t.settled) (b : Bool) :
    (standbyBody b s).settled = (standbyAtOnce b t).settled := by
  have hm : s.microstepMode = t.microstepMode := (congrArg (fun u => u.microstepMode) h :)
  have hp : s.hasPin .stby = s.params.present.stby := rfl
  rw [standbyBody, standbyAtOnce, ← settled_params h, ← hm, hp]
  split <;> [skip; exact h]
  cases b with
  | true => exact settled_pinWrite h .stby false
  | false =>
    exact (settled_latchSequence s.microstepMode s).trans
      (settled_pinWrite (settled_driveCode (settled_pinWrite h .stby false) _) .stby true)

/-- A standby body performed at once; it may leave a latch code in the locals. -/
theorem performAll_standbyScript (loop : Nat → State → State) (l : Locals) {s : State} {p : Params} (hp : p = s.params)
    (b : Bool) (ps : List Prim) :
    ∃ l', performAll loop l s (standbyScript p.present.stby b ++ ps) = performAll loop l' (standbyAtOnce b s) ps := by
  subst hp
  unfold standbyScript standbyAtOnce
  split <;> [skip; exact ⟨l, rfl⟩]
  cases b with
  | true => exact ⟨l, rfl⟩
  | false => exact ⟨_, performAll_latchScript loop l s .stored ps⟩

/-- What is left of a command at its start is what `exec` does, its waits left out. -/
theorem settled_exec {c : Instr} {s t : State} (hwf : c.wellFormed = true) (he : exec c s = .next t) :
    (remaining c 0 (initialLocals c) s).settled = t.settled := by
  have hen : s.hasPin .en = s.params.present.en := rfl
  have hstby : s.hasPin .stby = s.params.present.stby := rfl
  cases c <;> (injection he with he; subst he)
  case setSpeed rpm => rfl
  case msps m => rfl
  case step count =>
    have hc : count.isCount = true := hwf
    rw [if_pos hc]; rfl
  case stepFixed count interval =>
    have hc : count.isCount = true := hwf
    rw [if_pos hc]
    change (complete 0#32 (fixedPulses (fixedWaitUs (pinWrite .dir (isForward count) s).params interval)
      (pulseCount count) (pinWrite .dir (isForward count) s))).settled = _
    rw [pinWrite_params]
  case setMode m =>
    rw [hstby, remaining, script]
    split
    · rw [List.drop_zero, performAll_latchScript]
      have h := settled_congr (f := fun u => complete 1#32 { u with microstepMode := m })
        (fun u => complete 1#32 { u with microstepMode := m }) (fun _ => rfl) (settled_latchSequence m s)
      exact h.symm
    · rfl
  case enable b =>
    rw [hen, remaining, script]
    cases s.params.present.en <;> cases b <;> rfl
  case isEnabled =>
    rw [hen, remaining, script]
    cases s.params.present.en <;> rfl
  case isFault =>
    rw [hen, remaining, script]
    cases s.params.present.en <;> rfl
  case clearFault =>
    rw [hen, remaining, script]
    cases s.params.present.en
    · rfl
    · have h := settled_pinCfgInPullup (settled_delayUs s.params.clearFaultLowUs (pinCfgOutLow s))
      have h' := settled_congr (f := fun u => complete 0#32 { u with enabled := true })
        (fun u => complete 0#32 { u with enabled := true }) (fun _ => rfl) h
      exact h'.symm
  case standby b =>
    rw [remaining, script, List.drop_zero]
    generalize loopFrom (.standby b) _ = loop
    obtain ⟨l, hl⟩ := performAll_standbyScript loop (initialLocals (.standby b)).untimed (s := s) rfl b [.result 0#32]
    rw [hl]
    exact settled_complete (settled_standbyBody rfl b).symm 0#32
  case reset =>
    have htrue := settled_standbyBody (s := s) rfl true
    have hfalse := settled_standbyBody ((settled_delayUs Config.settleUs _).trans htrue) false
    rw [remaining, script, List.drop_zero, List.append_assoc]
    generalize loopFrom .reset _ = loop
    obtain ⟨l, hl⟩ := performAll_standbyScript loop (initialLocals .reset).untimed (s := s) rfl true
      (.delay Config.settleUs :: standbyScript s.params.present.stby false ++ [.result 0#32])
    obtain ⟨l', hl'⟩ := performAll_standbyScript loop l (standbyAtOnce_params true s).symm false [.result 0#32]
    rw [hl, List.cons_append, performAll_cons rfl (by simp), localsAfter, effectOf, hl']
    exact settled_complete hfalse.symm 0#32

/-- Decoding leaves what the command is to do as it is. -/
theorem outcome_decoded (c : Instr) (s : State) :
    (runAt c 0 (initialLocals c) s).outcome.settled = (remaining c 0 (initialLocals c) s).settled := by
  rw [outcome_run rfl]
  by_cases hc : c = .isFault
  · subst hc
    rw [remaining, remaining, runAt_params, script]
    cases s.params.present.en <;> rfl
  · exact settled_remaining (settled_runAt _ _ _ s) rfl fun hm => resultFault_not_mem hc (List.mem_of_mem_drop hm)

/-- Every command answers a next state. -/
theorem exec_next (i : Instr) (s : State) : ∃ t, exec i s = .next t := by
  cases i <;> exact ⟨_, rfl⟩

/-- What the block is doing leads to the outcome: a move does not change it. -/
theorem outcome_blockMove (s : State) : (blockMove s).outcome.settled = s.outcome.settled := by
  cases hph : s.phase with
  | idle =>
    have hm : blockMove s = sampleClock s := by simp [blockMove, hph, passTime]
    rw [hm, outcome_idle (s := sampleClock s) hph, outcome_idle hph, settled_sampleClock]
  | start w a0 a1 =>
    cases hd : decode w a0 a1 with
    | error e =>
      have hm : blockMove s = raiseErr .illegal s := by simp [blockMove, hph, hd]
      rw [hm, outcome_start_error hph hd, outcome_idle rfl]
    | ok c =>
      have hm : blockMove s = runAt c 0 (initialLocals c) s := by simp [blockMove, hph, hd]
      rw [hm, outcome_start_ok hph hd, outcome_decoded]
  | run c point l =>
    rw [outcome_run hph]
    simp only [blockMove, hph]
    split
    · next hp =>
      rw [remaining, List.drop_eq_nil_of_le (List.getElem?_eq_none_iff.1 hp)]; rfl
    · next p hp => exact outcome_perform hph hp

theorem outcome_blockMoves (k : Nat) (s : State) : (blockMoves k s).outcome.settled = s.outcome.settled := by
  induction k generalizing s with
  | zero => rfl
  | succ k ih => exact (ih (blockMove s)).trans (outcome_blockMove s)

/-- Once IDLE, the block is in the outcome of what it was doing, times left out. -/
theorem blockMoves_untimed {k : Nat} {s t : State} (hk : (blockMoves k s).phase = .idle)
    (h : s.outcome.settled = t.settled) (ht : t.phase = .idle) : (blockMoves k s).untimed = t.untimed := by
  refine untimed_eq_of_settled ?_ (hk.trans ht.symm)
  rw [← outcome_idle hk, outcome_blockMoves, h]

/-- Settles O50: the outcome is what `exec` answers, at the start of a command, and every move keeps it. -/
theorem sequencerReachesWhatExecAnswers : Obligations.SequencerReachesWhatExecAnswers := by
  intro s w a0 a1 k hph hk
  constructor
  · intro i hd
    obtain ⟨t, he⟩ := exec_next i s
    refine ⟨t, he, blockMoves_untimed hk ?_ (exec_kept he).2⟩
    rw [outcome_start_ok hph hd, settled_exec (wellFormed_of_decode hd) he]
  · intro e hd
    exact blockMoves_untimed (t := raiseErr .illegal s) hk (by rw [outcome_start_error hph hd]) rfl

end Sys2Proof.Machine

/-! PROOF. The state after reset (R49), the views of R41 and R42, and the host's writes while IDLE (R75). -/

namespace Sys2Proof.Machine

/-! ## Reset -/

/-- The OPEN values of reset are in the ranges of R8. -/
theorem initPulseInterval_range : 1 ≤ Config.initPulseInterval ∧ Config.initPulseInterval < 2 ^ 32 := by
  unfold Config.initPulseInterval; omega

theorem params_valid : Config.params.valid = true := by
  have hspr : Config.sprRaw % (2 ^ 31 - 1) < 2 ^ 31 - 1 := Nat.mod_lt _ (by decide)
  have hhigh : 1 + Config.sprRaw % (2 ^ 31 - 1) ≤ 2 ^ 31 - 1 := by omega
  simp only [Params.valid, Bool.and_eq_true, decide_eq_true_eq]
  exact ⟨⟨⟨⟨Nat.le_add_right 1 _, hhigh⟩, Nat.le_add_right 1 _⟩, Nat.le_add_right 1 _⟩, Nat.mul_mod_right 256 _⟩

theorem initPosition_lt : Config.initPosition < Config.params.spr :=
  Nat.mod_lt _ (spr_range_of_valid params_valid).1

theorem initLastPulseTime_le : Config.initLastPulseTime ≤ Config.clockAtReset :=
  Nat.le_of_lt_succ (Nat.mod_lt _ (Nat.succ_pos _))

theorem reset_pulseInterval : State.reset.pulseInterval.toNat = Config.initPulseInterval :=
  Nat.mod_eq_of_lt initPulseInterval_range.2

theorem reset_position : State.reset.position.toNat = Config.initPosition := by
  obtain ⟨-, hspr⟩ := spr_range_of_valid params_valid
  have hpos : Config.initPosition < 2 ^ 32 := initPosition_lt.trans (by omega)
  exact Nat.mod_eq_of_lt hpos

/-- Settles O6: the OPEN values are kept by their registers because they are in range. -/
theorem resetHoldsTheTableValues : Obligations.ResetHoldsTheTableValues :=
  ⟨rfl, rfl, rfl, rfl, rfl, rfl, rfl, reset_pulseInterval, initPulseInterval_range.1, reset_position, initPosition_lt,
    rfl, rfl, initLastPulseTime_le, rfl, fun o => by cases o <;> rfl, rfl⟩

/-- Settles O7: each range is that of an OPEN value, and the trace and the fault set are empty. -/
theorem resetMeetsTheInvariant : Obligations.ResetMeetsTheInvariant where
  params := params_valid
  interval := reset_pulseInterval.symm ▸ initPulseInterval_range.1
  position := reset_position.symm ▸ initPosition_lt
  lastPulse := initLastPulseTime_le
  clockStop := nofun
  traceOrder := .nil
  tracePast := nofun
  tracePins := nofun
  faultSet := .nil
  phase := trivial

/-! ## The views -/

theorem busy_iff (s : State) : s.busy = true ↔ s.phase ≠ .idle := by simp [State.busy]

/-- Settles O42: STATUS is a concatenation of the two fields and zeros. -/
theorem statusShowsBusyAndErr : Obligations.StatusShowsBusyAndErr := by
  intro s
  rw [← busy_iff, State.status]
  cases s.err <;> cases s.busy <;> decide

/-- Settles O43: the view is a concatenation of the six bits and zeros, checked for the 64 presences. -/
theorem presentViewShowsThePins : Obligations.PresentViewShowsThePins := by
  rintro ⟨step, dir, ms1, ms2, en, stby⟩
  revert step dir ms1 ms2 en stby
  decide

/-! ## Writes while IDLE -/

/-- A 4-byte access at a register's offset reaches it (R72). -/
theorem accessReg?_offset (r : HostReg) : accessReg? r.offset 4 = some r := by cases r <;> rfl

/-- While IDLE a write to a writable register is admitted (R75). -/
theorem hostWrite_idle {s : State} (h : s.phase = .idle) {r : HostReg} (hr : r.writable = true) (v : Word) :
    hostWrite r.offset 4 v s = writeReg r v s := by
  have hb : s.busy = false := by simp [State.busy, h]
  simp [hostWrite, accessReg?_offset, hr, hb]

/-- Settles O48: the three writable registers, each by `hostWrite_idle`. -/
theorem idleWritesSetArgsAndStartCommands : Obligations.IdleWritesSetArgsAndStartCommands := by
  intro s v h
  have h0 : hostWrite 0x04 4 v s = { s with arg0 := v } := hostWrite_idle h (r := .arg0) rfl v
  have h1 : hostWrite 0x08 4 v s = { s with arg1 := v } := hostWrite_idle h (r := .arg1) rfl v
  have hc : hostWrite 0x00 4 v s = { s with phase := .start v s.arg0 s.arg1, observed := false } :=
    hostWrite_idle h (r := .cmd) rfl v
  exact ⟨h0, h1, hc, by rw [hc]; rfl, by rw [h0]; rfl, by rw [h1]; rfl⟩

end Sys2Proof.Machine

/-! PROOF. The host's reads and writes of the register map (R71 to R77), the trace of a step (R80) and several blocks
(R81, R239). -/

namespace Sys2Proof.Machine

/-! ## Which accesses are admitted (R72 to R74) -/

theorem HostReg.offset_aligned (r : HostReg) : r.offset % 4 = 0 ∧ r.offset < 0x28 := by cases r <;> decide

/-- What R72 does not admit reaches no register (R73). -/
theorem accessReg?_none {offset bytes : Nat} (h : bytes ≠ 4 ∨ offset % 4 ≠ 0 ∨ 0x28 ≤ offset) :
    accessReg? offset bytes = none := by
  cases hr : accessReg? offset bytes with
  | none => rfl
  | some r =>
    obtain ⟨rfl, rfl⟩ := accessReg?_some hr
    obtain ⟨haligned, hmapped⟩ := r.offset_aligned
    omega

theorem hostRead_refused {offset bytes : Nat} (h : accessReg? offset bytes = none) (s : State) :
    hostRead offset bytes s = { s with refusalMark := true } := by simp [hostRead, h, refuseAccess]

theorem hostWrite_refused {offset bytes : Nat} (h : accessReg? offset bytes = none) (v : Word) (s : State) :
    hostWrite offset bytes v s = { s with refusalMark := true } := by simp [hostWrite, h, refuseAccess]

/-- A write to a read-only register is refused, BUSY or not (R74). -/
theorem hostWrite_readOnly {r : HostReg} (h : r.writable = false) (v : Word) (s : State) :
    hostWrite r.offset 4 v s = { s with refusalMark := true } := by
  simp [hostWrite, accessReg?_offset, h, refuseAccess]

/-- A write to a writable register while BUSY is CONCURRENT_ACCESS (R77). -/
theorem hostWrite_busy {r : HostReg} (h : r.writable = true) {s : State} (hb : s.busy = true) (v : Word) :
    hostWrite r.offset 4 v s = raiseFault .concurrentAccess s := by
  simp [hostWrite, accessReg?_offset, h, hb]

theorem mem_raiseFault_faults (f : Fault) (s : State) : f ∈ (raiseFault f s).faults := by
  unfold raiseFault; dsimp only; split <;> simp_all

/-! ## What an admitted read returns (R42, R43, R75, R76) -/

/-- A read of a register that holds a value returns it; of STATUS with BUSY = 0 it also observes the completion. -/
theorem hostRead_value {r : HostReg} {s : State} {v : Word} (h : regValue? r s = some v) :
    hostRead r.offset 4 s = { s with readData := v, observed := s.observed || (r == .status && !s.busy) } := by
  simp [hostRead, accessReg?_offset, h]

/-- A read of a register other than STATUS, and any read while BUSY, observes no completion. -/
theorem hostRead_value_unobserved {r : HostReg} {s : State} {v : Word} (ho : r ≠ .status ∨ s.busy = true)
    (h : regValue? r s = some v) : hostRead r.offset 4 s = { s with readData := v } := by
  rw [hostRead_value h]
  rcases ho with hr | hb
  · simp [hr]
  · simp [hb]

/-- A read of STATUS with BUSY = 0 observes the completion of the last command (R244). -/
theorem hostRead_status_idle {s : State} (hb : s.busy = false) :
    hostRead HostReg.status.offset 4 s = { s with readData := s.status, observed := true } := by
  rw [hostRead_value (r := .status) rfl]
  simp [hb]

/-- A read of a register that holds no value for the host returns a draw (R43, R76). -/
theorem hostRead_draw {r : HostReg} {s : State} (h : regValue? r s = none) :
    hostRead r.offset 4 s = { s with readData := Config.busyRead s.env s.draws, draws := s.draws + 1 } := by
  simp [hostRead, accessReg?_offset, h]

/-- While IDLE the registers that commands change hold their values (R75). -/
theorem regValue?_idle {s : State} (hb : s.busy = false) :
    regValue? .result s = some s.result ∧ regValue? .position s = some s.position
      ∧ regValue? .pulseInterval s = some s.pulseInterval
      ∧ regValue? .mode s = some (s.microstepMode.code.setWidth 32) := by
  simp only [regValue?, hb]
  refine ⟨rfl, rfl, rfl, ?_⟩
  cases s.microstepMode <;> rfl

/-- While BUSY the registers that commands change hold no value for the host (R76). -/
theorem regValue?_busy {r : HostReg} (hr : r ∈ [HostReg.result, .position, .pulseInterval, .mode]) {s : State}
    (hb : s.busy = true) : regValue? r s = none := by
  fin_cases hr <;> simp [regValue?, hb]

/-! ## The register map, settled -/

/-- Settles O46: what R72 does not admit reaches no register, and seven of the ten registers are read-only. -/
theorem otherAccessesAreRefused : Obligations.OtherAccessesAreRefused := by
  have readOnly : ∀ o ∈ [0x0C, 0x10, 0x14, 0x18, 0x1C, 0x20, 0x24],
      ∃ r ∈ HostReg.all, r.writable = false ∧ r.offset = o := by decide
  refine ⟨fun s offset bytes v h => ?_, fun s v offset ho => ?_, fun s => hostRead_draw (r := .cmd) rfl⟩
  · have hr := accessReg?_none h
    exact ⟨hostRead_refused hr s, hostWrite_refused hr v s⟩
  · obtain ⟨r, -, hr, rfl⟩ := readOnly offset ho
    exact hostWrite_readOnly hr v s

/-- Settles O47: CMD, ARG0 and ARG1 are the writable registers, and raising a fault changes the fault set alone. -/
theorem writesWhileBusyAreConcurrentAccess : Obligations.WritesWhileBusyAreConcurrentAccess := by
  have writable : ∀ o ∈ [0x00, 0x04, 0x08], ∃ r ∈ HostReg.all, r.writable = true ∧ r.offset = o := by decide
  intro s v hp offset ho
  obtain ⟨r, -, hr, rfl⟩ := writable offset ho
  rw [hostWrite_busy hr ((busy_iff s).2 hp)]
  exact ⟨rfl, mem_raiseFault_faults _ s⟩

/-- Settles O44: `regValue?` gives each register its value while IDLE, and CMD none. -/
theorem idleReadsReturnTheRegisters : Obligations.IdleReadsReturnTheRegisters := by
  intro s hp
  have hb : s.busy = false := by simp [State.busy, hp]
  obtain ⟨hresult, hposition, hinterval, hmode⟩ := regValue?_idle hb
  have read : ∀ (r : HostReg) {v : Word}, r ≠ .status → regValue? r s = some v →
      hostRead r.offset 4 s = { s with readData := v } := fun _ _ hr => hostRead_value_unobserved (.inl hr)
  exact ⟨read .arg0 nofun rfl, read .arg1 nofun rfl, read .result nofun hresult, hostRead_status_idle hb,
    read .position nofun hposition, read .pulseInterval nofun hinterval, read .mode nofun hmode, read .spr nofun rfl,
    read .present nofun rfl, _, hostRead_draw (r := .cmd) rfl⟩

/-- Settles O45: while BUSY `regValue?` gives a value to STATUS, the ARG registers and the constants alone. -/
theorem busyReadsReturnStatusArgsAndConstants : Obligations.BusyReadsReturnStatusArgsAndConstants := by
  have changing : ∀ o ∈ [0x0C, 0x14, 0x18, 0x1C],
      ∃ r ∈ [HostReg.result, .position, .pulseInterval, .mode], r.offset = o := by decide
  intro s hp
  have hb := (busy_iff s).2 hp
  have read : ∀ (r : HostReg) {v : Word}, regValue? r s = some v →
      hostRead r.offset 4 s = { s with readData := v } := fun _ _ => hostRead_value_unobserved (.inr hb)
  obtain ⟨hbit, -⟩ := statusShowsBusyAndErr s
  refine ⟨read .status rfl, hbit.2 hp, read .arg0 rfl, read .arg1 rfl, read .spr rfl, read .present rfl,
    fun o ho => ?_⟩
  obtain ⟨r, hr, rfl⟩ := changing o ho
  exact hostRead_draw (regValue?_busy hr hb)

/-! ## The trace of a step (R14, R15, R80) -/

/-- A command emits its events in the order of time. -/
theorem exec_emits {i : Instr} {s t : State} (h : exec i s = .next t) : ∃ shape, Emits s t shape := by
  cases i <;> (injection h with h; subst h)
  case setSpeed | msps | isEnabled => exact ⟨[], .of_trace_eq le_rfl rfl⟩
  case step count =>
    split
    · exact ⟨_, ((pinWrite_emits .dir _ s).trans (pacedPulses_emits _ _ _)).congr_right rfl rfl⟩
    · exact ⟨[], .of_trace_eq le_rfl rfl⟩
  case stepFixed count interval =>
    split
    · exact ⟨_, ((pinWrite_emits .dir _ s).trans (fixedPulses_emits _ _ _)).congr_right rfl rfl⟩
    · exact ⟨[], .of_trace_eq le_rfl rfl⟩
  case setMode m =>
    split
    · exact ⟨_, (latchSequence_emits_shape m s).congr_right rfl rfl⟩
    · exact ⟨[], .of_trace_eq le_rfl rfl⟩
  case enable b =>
    split
    · cases b
      · exact ⟨_, (pinCfgOutLow_emits s).congr_right rfl rfl⟩
      · exact ⟨_, (pinCfgInPullup_emits s).congr_right rfl rfl⟩
    · exact ⟨[], .of_trace_eq le_rfl rfl⟩
  case isFault => split <;> exact ⟨[], .of_trace_eq le_rfl rfl⟩
  case clearFault =>
    split
    · exact ⟨_, (((pinCfgOutLow_emits s).trans (delayUs_emits _ _)).trans (pinCfgInPullup_emits _)).congr_right
        rfl rfl⟩
    · exact ⟨[], .of_trace_eq le_rfl rfl⟩
  case standby b => exact ⟨_, (standbyBody_emits b s).congr_right rfl rfl⟩
  case reset =>
    exact ⟨_, (((standbyBody_emits true s).trans (delayUs_emits _ _)).trans (standbyBody_emits false _)).congr_right
      rfl rfl⟩

/-- A primitive emits the event of its pin action, and any other none. -/
theorem perform_emits (c : Instr) (point : Nat) (l : Locals) (s : State) (p : Prim) :
    ∃ shape, Emits s (perform c point l s p) shape := by
  cases p with
  | pinWrite o v => exact ⟨_, (pinWrite_emits o _ s).congr_right rfl rfl⟩
  | cfgOutLow => exact ⟨_, (pinCfgOutLow_emits s).congr_right rfl rfl⟩
  | cfgInPullup => exact ⟨_, (pinCfgInPullup_emits s).congr_right rfl rfl⟩
  | delay us =>
    simp only [perform]
    split <;> [skip; split]
    · exact ⟨[], .of_trace_eq le_rfl rfl⟩
    · exact ⟨[], (sampleClock_emits s).congr_right rfl rfl⟩
    · exact ⟨[], sampleClock_emits s⟩
  | waitPace =>
    simp only [perform]
    split
    · exact ⟨[], (sampleClock_emits s).congr_right rfl rfl⟩
    · exact ⟨[], sampleClock_emits s⟩
  | advance => exact ⟨[], .of_trace_eq (advance_clock s l.fwd).ge (advance_trace s l.fwd)⟩
  | stamp | whileMore | again | loadCode | setMode | setEnabled | setInterval | result | resultEnabled | resultFault
  | raise => exact ⟨[], .of_trace_eq le_rfl rfl⟩

theorem blockMove_emits (s : State) : ∃ shape, Emits s (blockMove s) shape := by
  unfold blockMove
  split
  · exact ⟨[], sampleClock_emits s⟩
  · split <;> exact ⟨[], .of_trace_eq le_rfl rfl⟩
  · split
    · exact ⟨[], .of_trace_eq le_rfl rfl⟩
    · exact perform_emits _ _ _ _ _

theorem blockStep_emits {s t : State} (h : blockStep s = .next t) : ∃ shape, Emits s t shape := by
  unfold blockStep at h
  split at h
  · injection h with h; subst h; exact ⟨[], sampleClock_emits s⟩
  · split at h
    · split at h
      · exact exec_emits h
      · injection h with h; exact h ▸ blockMove_emits s
    · injection h with h; subst h; exact ⟨[], .of_trace_eq le_rfl rfl⟩
  · injection h with h; exact h ▸ blockMove_emits s

/-- A host access emits nothing and takes no time. -/
theorem hostAccess_emits (a : Access) (s : State) : Emits s (hostAccess a s) [] := by
  obtain he | ⟨v, he⟩ | ⟨-, -, he⟩ | ⟨v, he⟩ | ⟨-, -, he⟩ | ⟨-, v, ⟨-, he⟩ | ⟨-, he⟩ | ⟨-, he⟩⟩ :=
    hostAccess_cases a s <;> rw [he] <;> exact .of_trace_eq le_rfl rfl

/-- Settles O18: what the block does emits its events in order, and a turn of the host none. -/
theorem everyStepOnlyAppendsToTheTraceInTimeOrder : Obligations.EveryStepOnlyAppendsToTheTraceInTimeOrder := by
  intro s t hst
  obtain hb | ⟨a, rest, -, rfl⟩ | ⟨rest, -, rfl⟩ | ⟨rest, -, -, rfl⟩ := step_cases hst
  · exact blockStep_emits hb
  · exact ⟨[], (hostAccess_emits a { s with host := rest }).congr_left rfl rfl⟩
  · obtain ⟨shape, he⟩ := blockMove_emits { s with host := rest }
    exact ⟨shape, he.congr_left rfl rfl⟩
  · exact ⟨[], .of_trace_eq le_rfl rfl⟩

/-! ## Several blocks (R81, R239) -/

/-- What `constructAll` builds: every pair was in range, and the block numbered `k` is connected to environment `k`. -/
theorem constructAll_next {inits : List (Params × Init)} {blocks : List State}
    (h : constructAll inits = .next blocks) :
    (∀ b ∈ inits, (b.1.valid && b.2.valid b.1) = true)
      ∧ blocks = inits.mapIdx fun k b => State.atReset b.1 b.2 k := by
  unfold constructAll at h
  split at h
  · next hv => injection h with h; exact ⟨List.all_eq_true.1 hv, h.symm⟩
  · cases h

/-- The environments of blocks constructed together are 0, 1, 2 and so on. -/
theorem constructAll_envs (inits : List (Params × Init)) :
    (inits.mapIdx fun k b => State.atReset b.1 b.2 k).map State.env = List.range inits.length := by
  refine List.ext_getElem (by simp) fun k _ _ => ?_
  simp [State.atReset]

theorem blockStep_next (s : State) : ∃ t, blockStep s = .next t := by
  unfold blockStep
  split
  · exact ⟨_, rfl⟩
  · split
    · split
      · exact exec_next _ s
      · exact ⟨_, rfl⟩
    · exact ⟨_, rfl⟩
  · exact ⟨_, rfl⟩

/-- No step faults or is refused (R227, R228). -/
theorem step_next (s : State) : ∃ t, step s = .next t := by
  unfold step pollStep
  split
  · exact blockStep_next s
  · exact ⟨_, rfl⟩
  · exact ⟨_, rfl⟩
  · split
    · exact blockStep_next s
    · exact ⟨_, rfl⟩

/-- A step of the block numbered `k` replaces it in the list by the state its own step gives (R239). -/
theorem stepInstance_next {blocks : List State} {k : Nat} {s t : State} (hk : blocks[k]? = some s)
    (hst : step s = .next t) : stepInstance k blocks = .next (blocks.set k t) := by
  simp [stepInstance, hk, hst]

/-- A state put in the place of another of the same environment leaves the list of environments. -/
theorem map_env_set {blocks : List State} {k : Nat} {s t : State} (hk : blocks[k]? = some s) (he : t.env = s.env) :
    (blocks.set k t).map State.env = blocks.map State.env := by
  obtain ⟨hlt, rfl⟩ := List.getElem?_eq_some_iff.1 hk
  rw [List.map_set, he, ← List.getElem_map State.env (h := by simpa using hlt), List.set_getElem_self]

/-- The block that a platform address selects has the address in its aperture (R13, R70). -/
theorem instanceAt?_some {address k offset : Nat} {blocks : List State}
    (h : instanceAt? address blocks = some (k, offset)) :
    ∃ s, blocks[k]? = some s ∧ offsetInAperture? s.params address = some offset := by
  induction blocks generalizing k with
  | nil => cases h
  | cons s rest ih =>
    unfold instanceAt? at h
    cases ha : offsetInAperture? s.params address with
    | some o =>
      simp only [ha, Option.some.injEq, Prod.mk.injEq] at h
      obtain ⟨rfl, rfl⟩ := h
      exact ⟨s, rfl, ha⟩
    | none =>
      simp only [ha, Option.map_eq_some_iff] at h
      obtain ⟨⟨j, o⟩, hj, he⟩ := h
      cases he
      exact ih hj

/-- A platform write leaves every block whose aperture does not hold the address (R239). -/
theorem platformWrite_outside {blocks : List State} {address j : Nat} {s : State} (hj : blocks[j]? = some s)
    (ho : offsetInAperture? s.params address = none) (bytes : Nat) (v : Word) :
    (platformWrite address bytes v blocks)[j]? = some s := by
  cases hi : instanceAt? address blocks with
  | none => simpa [platformWrite, hi] using hj
  | some e =>
    obtain ⟨k, offset⟩ := e
    obtain ⟨u, hu, ha⟩ := instanceAt?_some hi
    have hne : k ≠ j := by rintro rfl; simp_all
    simpa [platformWrite, hi, List.getElem?_modify, hne] using hj

/-- Settles O49: by position in the list, of construction, of a step and of a platform write. -/
theorem instancesShareNothing : Obligations.InstancesShareNothing := by
  refine ⟨fun inits blocks h => ?_, fun blocks k s hk => ?_, fun blocks address bytes v j s hj ho =>
    platformWrite_outside hj ho bytes v⟩
  · obtain ⟨hv, rfl⟩ := constructAll_next h
    refine ⟨by simp, constructAll_envs inits ▸ List.nodup_range, fun k p i hk => ⟨?_, by simp [hk]⟩⟩
    exact if_pos (hv (p, i) (List.mem_of_getElem? hk))
  · obtain ⟨t, hst⟩ := step_next s
    obtain ⟨hlt, -⟩ := List.getElem?_eq_some_iff.1 hk
    obtain ⟨-, henv, -⟩ := parametersNeverChange s t hst
    exact ⟨t, blocks.set k t, hst, stepInstance_next hk hst, by simp [hlt], fun j hj => List.getElem?_set_ne hj.symm,
      map_env_set hk henv⟩

end Sys2Proof.Machine

/-! PROOF. The decoder against the words it accepts (R90, R92, R94), the step at a latched word, and the accesses of
R102 that issue a command. -/

namespace Sys2Proof.Machine

/-! ## What the decoder accepts (R92) -/

/-- R92's six checks, passed by a word of this opcode and the ARG0 latched with it. -/
structure PassesChecks (op : Opcode) (w a0 : Word) : Prop where
  opcode : cmdOpc w = op.bits
  reserved : cmdReserved w = 0#19
  modeUnused : op.usesMode = false → cmdMode w = 0#4
  boolUnused : op.usesBool = false → cmdBool w = false
  modeRange : op.usesMode = true → (cmdMode w).toNat ≤ 8
  countRange : op.usesCount = true → a0.isCount = true

/-- The codes of R95 are 0 to 8. -/
theorem exists_mode_code {k : BitVec 4} : (∃ mode : MicrostepMode, k = mode.code) ↔ k.toNat ≤ 8 := by
  rw [← not_lt, ← MicrostepMode.ofCode?_eq_none, ← ne_eq, Option.ne_none_iff_exists']
  exact exists_congr fun mode => ⟨fun h => h ▸ mode.ofCode?_code, MicrostepMode.code_of_ofCode?⟩

/-- The MODE field of a word that passes names a mode, FULL where the opcode does not use it. -/
theorem PassesChecks.exists_mode {op : Opcode} {w a0 : Word} (h : PassesChecks op w a0) :
    ∃ mode : MicrostepMode, cmdMode w = mode.code := by
  cases hm : op.usesMode with
  | false => exact ⟨.full, h.modeUnused hm⟩
  | true => exact exists_mode_code.2 (h.modeRange hm)

/-- A word that passes the checks decodes to the command that its opcode builds from its fields. -/
theorem decode_of_passesChecks {op : Opcode} {mode : MicrostepMode} {w a0 : Word} (h : PassesChecks op w a0)
    (hm : cmdMode w = mode.code) (a1 : Word) : decode w a0 a1 = .ok (op.build mode (cmdBool w) a0 a1) := by
  have hmode : ¬(!op.usesMode ∧ cmdMode w ≠ 0#4) := by simpa using h.modeUnused
  have hbool : ¬(!op.usesBool ∧ cmdBool w) := by simpa using h.boolUnused
  have hcount : ¬(op.usesCount ∧ !a0.isCount) := by simpa using h.countRange
  simp only [decode, h.opcode, Opcode.ofBits?_bits, h.reserved, ne_eq, not_true_eq_false, if_false, if_neg hmode,
    if_neg hbool]
  simp only [hm, MicrostepMode.ofCode?_code, if_neg hcount]

/-- A word that decodes passes the checks, and its command is the one that its opcode builds from its fields. -/
theorem passesChecks_of_decode {w a0 a1 : Word} {i : Instr} (h : decode w a0 a1 = .ok i) :
    ∃ op mode, PassesChecks op w a0 ∧ cmdMode w = mode.code ∧ i = op.build mode (cmdBool w) a0 a1 := by
  unfold decode at h
  split at h <;> [cases h; skip]
  next op hop =>
  split at h <;> [cases h; skip]
  next hreserved =>
  split at h <;> [cases h; skip]
  next hmode =>
  split at h <;> [cases h; skip]
  next hbool =>
  split at h <;> [cases h; skip]
  next mode hcode =>
  split at h <;> [cases h; skip]
  next hcount =>
  have hm := MicrostepMode.code_of_ofCode? hcode
  refine ⟨op, mode, ?_, hm, (Except.ok.inj h).symm⟩
  exact
    { opcode := Opcode.bits_of_ofBits? hop
      reserved := not_not.1 hreserved
      modeUnused := by simpa using hmode
      boolUnused := by simpa using hbool
      modeRange := fun _ => exists_mode_code.1 ⟨mode, hm⟩
      countRange := by simpa using hcount }

@[simp] theorem opcode_build (op : Opcode) (mode : MicrostepMode) (b : Bool) (a0 a1 : Word) :
    (op.build mode b a0 a1).opcode = op := by cases op <;> rfl

/-- A word decodes to a command of this opcode exactly when it passes the opcode's checks. -/
theorem exists_decode_iff {op : Opcode} {w a0 a1 : Word} :
    (∃ i, decode w a0 a1 = .ok i ∧ i.opcode = op) ↔ PassesChecks op w a0 := by
  constructor
  · rintro ⟨i, hd, rfl⟩
    obtain ⟨op, mode, hc, -, rfl⟩ := passesChecks_of_decode hd
    rwa [opcode_build]
  · intro hc
    obtain ⟨mode, hm⟩ := hc.exists_mode
    exact ⟨_, decode_of_passesChecks hc hm a1, opcode_build ..⟩

/-! ## The words of a command (R90, R93, R97, R103) -/

/-- The mode that a command's MODE field names (R95), FULL where the command has no such operand. -/
def modeOperand : Instr → MicrostepMode
  | .msps mode | .setMode mode => mode
  | .setSpeed _ | .step _ | .stepFixed _ _ | .enable _ | .isEnabled | .isFault | .clearFault | .standby _
  | .reset => .full

theorem modeField_eq_code (i : Instr) : i.modeField = (modeOperand i).code := by cases i <;> rfl

theorem modeField_unused {i : Instr} (h : i.opcode.usesMode = false) : i.modeField = 0#4 := by
  cases i with
  | msps | setMode => cases h
  | setSpeed | step | stepFixed | enable | isEnabled | isFault | clearFault | standby | reset => rfl

theorem boolField_unused {i : Instr} (h : i.opcode.usesBool = false) : i.boolField = false := by
  cases i with
  | enable | standby => cases h
  | setSpeed | msps | step | stepFixed | setMode | isEnabled | isFault | clearFault | reset => rfl

/-- A command is built by its opcode from its MODE and B fields and from ARG registers that hold what it takes. -/
theorem build_operands {i : Instr} {a0 a1 : Word} (h0 : ∀ v, i.arg0? = some v → v = a0)
    (h1 : ∀ v, i.arg1? = some v → v = a1) : i.opcode.build (modeOperand i) i.boolField a0 a1 = i := by
  cases i with
  | setSpeed rpm => obtain rfl := h0 rpm rfl; rfl
  | step count => obtain rfl := h0 count rfl; rfl
  | stepFixed count interval => obtain rfl := h0 count rfl; obtain rfl := h1 interval rfl; rfl
  | msps | setMode | enable | isEnabled | isFault | clearFault | standby | reset => rfl

/-- R92 on a count: a well-formed command takes none that is −2^31. -/
theorem arg0_isCount {i : Instr} {a0 : Word} (hwf : i.wellFormed = true) (h0 : ∀ v, i.arg0? = some v → v = a0)
    (h : i.opcode.usesCount = true) : a0.isCount = true := by
  cases i with
  | step count | stepFixed count interval => obtain rfl := h0 count rfl; exact hwf
  | setSpeed | msps | setMode | enable | isEnabled | isFault | clearFault | standby | reset => cases h

/-- The CMD word of a well-formed command passes the checks with the count it takes, if any, in ARG0. -/
theorem passesChecks_cmdWord {i : Instr} {a0 : Word} (hwf : i.wellFormed = true)
    (h0 : ∀ v, i.arg0? = some v → v = a0) : PassesChecks i.opcode i.cmdWord a0 := by
  obtain ⟨hopcode, hmode, hbool, hreserved⟩ := Laws.CmdLayout.of_wordOf i
  exact
    { opcode := hopcode
      reserved := hreserved
      modeUnused := fun hu => hmode.trans (modeField_unused hu)
      boolUnused := fun hu => hbool.trans (boolField_unused hu)
      modeRange := fun _ => exists_mode_code.1 ⟨modeOperand i, hmode.trans (modeField_eq_code i)⟩
      countRange := arg0_isCount hwf h0 }

/-- The CMD word of a well-formed command decodes to it, whatever the ARG registers that it does not take hold. -/
theorem decode_cmdWord {i : Instr} {a0 a1 : Word} (hwf : i.wellFormed = true) (h0 : ∀ v, i.arg0? = some v → v = a0)
    (h1 : ∀ v, i.arg1? = some v → v = a1) : decode i.cmdWord a0 a1 = .ok i := by
  obtain ⟨-, hmode, hbool, -⟩ := Laws.CmdLayout.of_wordOf i
  have hm := hmode.trans (modeField_eq_code i)
  rw [decode_of_passesChecks (passesChecks_cmdWord hwf h0) hm a1, hbool, build_operands h0 h1]

/-- An operand that is taken is what is written for it, whatever stands for one that is not. -/
theorem getD_of_some {o : Option Word} (d v : Word) (h : o = some v) : v = o.getD d := by rw [h]; rfl

/-- Settles O1: the encoder puts every operand that the command takes where the decoder reads it. -/
theorem decodeOfEncode : Obligations.DecodeOfEncode :=
  fun _ hwf => decode_cmdWord hwf (getD_of_some _) (getD_of_some _)

/-- The command that an opcode builds from the fields of a word has that word, if the fields it does not use are 0. -/
theorem cmdWord_build {op : Opcode} {mode : MicrostepMode} {w a0 : Word} (h : PassesChecks op w a0)
    (hm : cmdMode w = mode.code) (a1 : Word) : (op.build mode (cmdBool w) a0 a1).cmdWord = w := by
  have hmode : (op.build mode (cmdBool w) a0 a1).modeField = cmdMode w := by
    cases op with
    | msps | setMode => exact hm.symm
    | setSpeed | step | stepFixed | enable | isEnabled | isFault | clearFault | standby | reset =>
      exact (h.modeUnused rfl).symm
  have hbool : (op.build mode (cmdBool w) a0 a1).boolField = cmdBool w := by
    cases op with
    | enable | standby => rfl
    | setSpeed | msps | step | stepFixed | setMode | isEnabled | isFault | clearFault | reset =>
      exact (h.boolUnused rfl).symm
  rw [Instr.cmdWord, opcode_build, hmode, hbool, ← h.opcode, wordOf_fields w h.reserved]

/-- What an opcode builds takes its operands from the ARG registers. -/
theorem args_build (op : Opcode) (mode : MicrostepMode) (b : Bool) (a0 a1 : Word) :
    (∀ v, (op.build mode b a0 a1).arg0? = some v → v = a0)
      ∧ ∀ v, (op.build mode b a0 a1).arg1? = some v → v = a1 := by
  cases op <;> simp [Opcode.build, Instr.arg0?, Instr.arg1?]

/-- Settles O2: the command is built from the word's own fields, and a word whose RSV is 0 is those fields. -/
theorem decodedCommandHasItsOwnWord : Obligations.DecodedCommandHasItsOwnWord := by
  intro w a0 a1 i hd
  have hwf := wellFormed_of_decode hd
  obtain ⟨op, mode, hc, hm, rfl⟩ := passesChecks_of_decode hd
  exact ⟨hwf, cmdWord_build hc hm a1, args_build op mode (cmdBool w) a0 a1⟩

/-- Settles O3: the decoder evaluated on each of the words. -/
theorem writtenOutWordsDecode : Obligations.WrittenOutWordsDecode := by
  unfold Obligations.WrittenOutWordsDecode; decide

/-! ## The match and mask table (R94) -/

/-- A word is the one with these fields and RSV 0 exactly when they are its fields (R90). -/
theorem eq_wordOf_iff {w : Word} {op : BitVec 8} {m : BitVec 4} {b : Bool} :
    w = wordOf op m b ↔ cmdOpc w = op ∧ cmdMode w = m ∧ cmdBool w = b ∧ cmdReserved w = 0#19 := by
  constructor
  · rintro rfl
    exact ⟨cmdOpc_wordOf .., cmdMode_wordOf .., cmdBool_wordOf .., cmdReserved_wordOf ..⟩
  · rintro ⟨rfl, rfl, rfl, hreserved⟩
    exact (wordOf_fields w hreserved).symm

/-- A row's mask keeps OPC and RSV and drops exactly the operand fields; its pattern is the opcode with the rest 0. -/
theorem matchTable_fields : ∀ r ∈ matchTable,
    r.pattern = wordOf r.opcode.bits 0#4 false ∧ cmdOpc r.mask = BitVec.allOnes 8
      ∧ cmdMode r.mask = (if r.opcode.usesMode then 0#4 else BitVec.allOnes 4) ∧ cmdBool r.mask = !r.opcode.usesBool
      ∧ cmdReserved r.mask = BitVec.allOnes 19 := by decide

/-- A word matches a row exactly when the fields that the row's mask keeps are as R92 wants them. -/
theorem and_mask_eq_pattern_iff {r : MatchRow} (hr : r ∈ matchTable) (w : Word) :
    w &&& r.mask = r.pattern ↔ cmdOpc w = r.opcode.bits ∧ (r.opcode.usesMode = false → cmdMode w = 0#4)
      ∧ (r.opcode.usesBool = false → cmdBool w = false) ∧ cmdReserved w = 0#19 := by
  obtain ⟨hpattern, hopcode, hmode, hbool, hreserved⟩ := matchTable_fields r hr
  have opc_and : cmdOpc (w &&& r.mask) = cmdOpc w &&& cmdOpc r.mask := BitVec.extractLsb'_and
  have mode_and : cmdMode (w &&& r.mask) = cmdMode w &&& cmdMode r.mask := BitVec.extractLsb'_and
  have bool_and : cmdBool (w &&& r.mask) = (cmdBool w && cmdBool r.mask) := BitVec.getLsbD_and
  have reserved_and : cmdReserved (w &&& r.mask) = cmdReserved w &&& cmdReserved r.mask := BitVec.extractLsb'_and
  rw [hpattern, eq_wordOf_iff, opc_and, mode_and, bool_and, reserved_and, hopcode, hmode, hbool, hreserved,
    BitVec.and_allOnes, BitVec.and_allOnes]
  cases r.opcode.usesMode <;> cases r.opcode.usesBool <;> simp [-BitVec.reduceAllOnes]

theorem usesMode_iff (op : Opcode) : op.usesMode = true ↔ op = .msps ∨ op = .setMode := by cases op <;> decide
theorem usesCount_iff (op : Opcode) : op.usesCount = true ↔ op = .step ∨ op = .stepFixed := by cases op <;> decide
theorem isCount_iff (w : Word) : w.isCount = true ↔ w ≠ 0x80000000#32 := bne_iff_ne

/-- Settles O4: the row says of four fields what the checks say, and the value checks are the other two. -/
theorem matchAndMaskTableIsTheDecoder : Obligations.MatchAndMaskTableIsTheDecoder := by
  intro w a0 a1 r hr
  rw [exists_decode_iff, and_mask_eq_pattern_iff hr, ← usesMode_iff, ← usesCount_iff, ← isCount_iff]
  constructor
  · rintro ⟨hopcode, hreserved, hmode, hbool, hrange, hcount⟩
    exact ⟨⟨hopcode, hmode, hbool, hreserved⟩, hrange, hcount⟩
  · rintro ⟨⟨hopcode, hmode, hbool, hreserved⟩, hrange, hcount⟩
    exact ⟨hopcode, hreserved, hmode, hbool, hrange, hcount⟩

/-! ## A step at a latched word, and at any other point (R91, R147, R242) -/

/-- The host takes no access at its next turn: it has none left, or it polls for the end of the command. -/
def State.Waiting (s : State) : Prop := s.host = [] ∨ ∃ rest, s.host = .poll :: rest

/-- While BUSY, a step in which the host only waits is the block's. -/
theorem step_waiting {s : State} (hw : s.Waiting) (hp : s.phase ≠ .idle) : step s = blockStep s := by
  obtain hh | ⟨rest, hh⟩ := hw
  · simp [step, hh]
  · simp [step, hh, pollStep, (busy_iff s).2 hp]

theorem step_start_ok {s : State} {w a0 a1 : Word} {i : Instr} (hw : s.Waiting) (hp : s.phase = .start w a0 a1)
    (hd : decode w a0 a1 = .ok i) (hc : s.clockStop = none) : step s = exec i s := by
  rw [step_waiting hw (by simp [hp])]
  simp [blockStep, hp, hd, hc]

theorem step_start_error {s : State} {w a0 a1 : Word} {e : Illegal} (hw : s.Waiting) (hp : s.phase = .start w a0 a1)
    (hd : decode w a0 a1 = .error e) : step s = .next (raiseErr .illegal s) := by
  rw [step_waiting hw (by simp [hp])]
  simp [blockStep, hp, hd]

theorem step_start_faulty {s : State} {w a0 a1 : Word} {i : Instr} (hw : s.Waiting) (hp : s.phase = .start w a0 a1)
    (hd : decode w a0 a1 = .ok i) (hc : s.clockStop ≠ none) : step s = .next (blockMove s) := by
  rw [step_waiting hw (by simp [hp])]
  simp [blockStep, hp, hd, hc]

theorem step_run {s : State} {c : Instr} {point : Nat} {l : Locals} (hw : s.Waiting) (hp : s.phase = .run c point l) :
    step s = .next (blockMove s) := by
  rw [step_waiting hw (by simp [hp])]
  simp [blockStep, hp]

theorem step_access {s : State} {a : Access} {rest : List HostTurn} (hh : s.host = .access a :: rest) :
    step s = .next (hostAccess a { s with host := rest }) := by simp [step, hh]

theorem step_yield {s : State} {rest : List HostTurn} (hh : s.host = .yield :: rest) :
    step s = .next (blockMove { s with host := rest }) := by simp [step, hh]

theorem step_idle {s : State} (hh : s.host = []) (hp : s.phase = .idle) : step s = .next (sampleClock s) := by
  simp [step, hh, blockStep, hp, passTime]

theorem step_poll_idle {s : State} {rest : List HostTurn} (hh : s.host = .poll :: rest) (hp : s.phase = .idle) :
    step s = .next { s with host := rest, readData := s.status, observed := true } := by
  simp [step, hh, pollStep, State.busy, hp]

/-- While IDLE the host's write of a writable register is admitted (R75, R91). -/
theorem step_write_idle {s : State} {r : HostReg} {v : Word} {rest : List HostTurn} (hp : s.phase = .idle)
    (hr : r.writable = true) (hh : s.host = .access (.write r.offset 4 v) :: rest) :
    step s = .next (writeReg r v { s with host := rest }) := by
  rw [step_access hh]
  exact congrArg _ (hostWrite_idle (s := { s with host := rest }) hp hr v)

theorem usesMode_iff_bits (op : Opcode) : op.usesMode = true ↔ op.bits = 0x02#8 ∨ op.bits = 0x20#8 := by
  cases op <;> decide
theorem usesBool_iff_bits (op : Opcode) : op.usesBool = true ↔ op.bits = 0x30#8 ∨ op.bits = 0x34#8 := by
  cases op <;> decide
theorem usesCount_iff_bits (op : Opcode) : op.usesCount = true ↔ op.bits = 0x10#8 ∨ op.bits = 0x11#8 := by
  cases op <;> decide

/-- R92's checks on the raw bits of a word with the OPC of this opcode are those of the opcode. -/
theorem not_spellsNoCommand_iff_passesChecks {op : Opcode} {w a0 : Word} (hop : cmdOpc w = op.bits) :
    ¬SpellsNoCommand w a0 ↔ PassesChecks op w a0 := by
  have hknown : ¬Opcode.ofBits? (cmdOpc w) = none := by simp [hop]
  rw [Opcode.ofBits?_eq_none] at hknown
  have fields : SpellsNoCommand w a0 ↔ cmdReserved w ≠ 0#19 ∨ (¬op.usesMode = true ∧ cmdMode w ≠ 0#4)
      ∨ (¬op.usesBool = true ∧ cmdBool w = true) ∨ (op.usesMode = true ∧ 8 < (cmdMode w).toNat)
      ∨ (op.usesCount = true ∧ ¬a0.isCount = true) := by
    rw [isCount_iff, usesMode_iff_bits, usesBool_iff_bits, usesCount_iff_bits, ← hop, not_or, not_or, not_not,
      and_assoc, and_assoc]
    exact or_iff_right hknown
  simp only [fields, not_or, not_and, not_not, not_lt, Bool.not_eq_true, Bool.not_eq_false]
  constructor
  · rintro ⟨hreserved, hmode, hbool, hrange, hcount⟩
    exact ⟨hop, hreserved, hmode, hbool, hrange, hcount⟩
  · rintro ⟨-, hreserved, hmode, hbool, hrange, hcount⟩
    exact ⟨hreserved, hmode, hbool, hrange, hcount⟩

/-- R92's six checks on the raw bits pass exactly where they pass for some opcode of R93. -/
theorem not_spellsNoCommand_iff {w a0 : Word} : ¬SpellsNoCommand w a0 ↔ ∃ op, PassesChecks op w a0 := by
  constructor
  · intro hs
    obtain ⟨op, hop⟩ := Option.ne_none_iff_exists'.1 fun hnone => hs (.inl (Opcode.ofBits?_eq_none.1 hnone))
    exact ⟨op, (not_spellsNoCommand_iff_passesChecks (Opcode.bits_of_ofBits? hop)).1 hs⟩
  · rintro ⟨op, hc⟩
    exact (not_spellsNoCommand_iff_passesChecks hc.opcode).2 hc

/-- Settles O5: `SpellsNoCommand` is the failure of the decoder's own checks, and the step follows the decoder. -/
theorem illegalWordsRaiseIllegalAndOthersRun : Obligations.IllegalWordsRaiseIllegalAndOthersRun := by
  intro s w a0 a1 hw hp
  constructor
  · intro hs
    cases hd : decode w a0 a1 with
    | ok i =>
      obtain ⟨op, mode, hc, -⟩ := passesChecks_of_decode hd
      exact absurd hs (not_spellsNoCommand_iff.2 ⟨op, hc⟩)
    | error e => exact step_start_error hw hp hd
  · intro hs
    obtain ⟨op, hc⟩ := not_spellsNoCommand_iff.1 hs
    obtain ⟨i, hd, -⟩ := exists_decode_iff.2 hc
    exact ⟨i, hd, step_start_ok hw hp hd⟩

/-- A row of the opcode table that spells a command does so by the words `tableWords` makes of it. -/
theorem decode_tableWords {nbits w : Nat} {i : Instr} (h : decodeTableWord nbits w = some i) :
    decode (tableWords nbits w).1 (tableWords nbits w).2.1 (tableWords nbits w).2.2 = .ok i := by
  unfold decodeTableWord at h
  cases hd : decode (tableWords nbits w).1 (tableWords nbits w).2.1 (tableWords nbits w).2.2 with
  | ok j => rw [hd] at h; cases h; rfl
  | error e => rw [hd] at h; cases h

/-- Settles O11: the branches of a step, and `withFetchWord` latches the words of the opcode table's row. -/
theorem stepRunsTheDecodedCommand : Obligations.StepRunsTheDecodedCommand :=
  ⟨fun _ _ _ _ _ hp hd hw => ⟨step_start_ok hw hp hd, step_start_faulty hw hp hd⟩,
    fun _ _ _ _ hp hw => step_run hw hp,
    fun _ hp => ⟨fun hh => step_idle hh hp, fun _ hh => step_poll_idle hh hp⟩, fun _ _ _ hh => step_access hh,
    fun _ _ hh => step_yield hh, fun _ _ _ hp hh => step_write_idle (r := .cmd) hp rfl hh,
    fun s _ _ _ hc hd => step_start_ok (.inr ⟨s.host, rfl⟩) rfl (decode_tableWords hd) hc⟩

/-! ## The accesses that issue a command (R102) -/

theorem run_succ {s t : State} (h : step s = .next t) (k : Nat) :
    Host.Core.run core (k + 1) s = Host.Core.run core k t := by
  have hs : core.step s = .next t := h
  simp [Host.Core.run, hs]

/-- A register with the value that is written to it, if there is one. -/
def writeReg? (r : HostReg) (v? : Option Word) (s : State) : State := v?.elim s fun v => writeReg r v s

/-- The turns of R102 that write an operand, where the command takes it. -/
def operandTurns (r : HostReg) (v? : Option Word) : List HostTurn :=
  (v?.map fun v => HostTurn.access (.write r.offset 4 v)).toList

/-- While IDLE the turns that write an operand write it, one step for each. -/
theorem run_operandTurns {s : State} {r : HostReg} {v? : Option Word} {rest : List HostTurn} (hp : s.phase = .idle)
    (hr : r.writable = true) (hh : s.host = operandTurns r v? ++ rest) (k : Nat) :
    Host.Core.run core ((operandTurns r v?).length + k) s
      = Host.Core.run core k (writeReg? r v? { s with host := rest }) := by
  cases v? with
  | none => obtain rfl : s.host = rest := hh; simp [operandTurns, writeReg?]
  | some v =>
    rw [Nat.add_comm]
    exact run_succ (step_write_idle hp hr hh) k

theorem writeReg?_arg0 (v? : Option Word) (s : State) : writeReg? .arg0 v? s = { s with arg0 := v?.getD s.arg0 } := by
  cases v? <;> rfl

theorem writeReg?_arg1 (v? : Option Word) (s : State) : writeReg? .arg1 v? s = { s with arg1 := v?.getD s.arg1 } := by
  cases v? <;> rfl

/-- From a latched word whose host polls: one step performs the command, and one reads STATUS with BUSY = 0. -/
theorem run_latched {s t : State} {w a0 a1 : Word} {i : Instr} {rest : List HostTurn} (hp : s.phase = .start w a0 a1)
    (hh : s.host = .poll :: rest) (hc : s.clockStop = none) (hd : decode w a0 a1 = .ok i) (hex : exec i s = .next t) :
    Host.Core.run core 2 s = .next { t with host := rest, readData := t.status, observed := true } := by
  obtain ⟨hk, hidle⟩ := exec_kept hex
  rw [run_succ ((step_start_ok (.inr ⟨rest, hh⟩) hp hd hc).trans hex),
    run_succ (step_poll_idle (hk.host.trans hh) hidle)]
  rfl

/-- R102's turns: those of the two operands, the CMD write and the poll. -/
theorem hostExpansion_eq (i : Instr) :
    hostExpansion i = operandTurns .arg0 i.arg0?
      ++ (operandTurns .arg1 i.arg1? ++ [.access (.write HostReg.cmd.offset 4 i.cmdWord), .poll]) :=
  List.append_assoc ..

/-- Settles O12: the operands are written, the CMD write latches a word that decodes to `i`, and the poll waits. -/
theorem hostExpansionRunsTheCommand : Obligations.HostExpansionRunsTheCommand := by
  intro s t i rest hwf hp hc hh hex
  have hlen : (hostExpansion i).length + 1
      = (operandTurns .arg0 i.arg0?).length + ((operandTurns .arg1 i.arg1?).length + (2 + 1)) := by
    simp [hostExpansion_eq]; omega
  have hturns : s.host = operandTurns .arg0 i.arg0? ++ (operandTurns .arg1 i.arg1?
      ++ .access (.write HostReg.cmd.offset 4 i.cmdWord) :: .poll :: rest) := by
    simp [hh, hostExpansion_eq]
  have hd := decode_cmdWord hwf (getD_of_some s.arg0) (getD_of_some s.arg1)
  rw [hlen, run_operandTurns hp rfl hturns, writeReg?_arg0, run_operandTurns (by exact hp) rfl rfl, writeReg?_arg1,
    run_succ (step_write_idle (r := .cmd) (by exact hp) rfl rfl)]
  exact run_latched rfl rfl hc hd hex

/-- Settles O56: the words are those of ENABLE and STANDBY, and each line is one mnemonic without operands. -/
theorem assemblerPseudoCommandsExpand : Obligations.AssemblerPseudoCommandsExpand :=
  ⟨cmdWord_enable true, cmdWord_enable false, cmdWord_standby true, cmdWord_standby false, by decide, by decide,
    by decide, by decide⟩

end Sys2Proof.Machine

/-! PROOF. The Timing Model: which words spell a command of a given opcode (R93, R103), then MSPS (R121) and SET_SPEED
(R122 to R124). -/

namespace Sys2Proof.Machine

/-! ## The words that spell a command of one opcode (R92, R93, R103) -/

/-- The OPC column of R93 has no value twice. -/
theorem Opcode.eq_of_bits_eq {op op' : Opcode} (h : op.bits = op'.bits) : op = op' :=
  Option.some.inj (by rw [← Opcode.ofBits?_bits op, h, Opcode.ofBits?_bits])

/-- What an opcode builds is well formed where its count, if it takes one, is in range (R92). -/
theorem wellFormed_build {op : Opcode} {a0 : Word} (hcount : op.usesCount = true → a0.isCount = true)
    (mode : MicrostepMode) (b : Bool) (a1 : Word) : (op.build mode b a0 a1).wellFormed = true := by
  cases op with
  | step | stepFixed => exact hcount rfl
  | setSpeed | msps | setMode | enable | isEnabled | isFault | clearFault | standby | reset => rfl

/-- If `P` holds exactly of the CMD words of what an opcode builds, a count in range, then of the words with this opcode
those decode and no others. -/
theorem opcodeSpells_of_build {op : Opcode} {P : Word → Word → Word → Instr → Prop}
    (hP : ∀ w a0 a1 i, P w a0 a1 i ↔ ∃ mode b,
      i = op.build mode b a0 a1 ∧ w = i.cmdWord ∧ (op.usesCount = true → a0.isCount = true)) :
    OpcodeSpells op.bits P := by
  intro w a0 a1 hop
  constructor
  · intro i hi
    obtain ⟨mode, b, rfl, rfl, hcount⟩ := (hP w a0 a1 i).1 hi
    obtain ⟨h0, h1⟩ := args_build op mode b a0 a1
    exact decode_cmdWord (wellFormed_build hcount mode b a1) h0 h1
  · intro hnone
    cases hd : decode w a0 a1 with
    | error e => exact ⟨e, rfl⟩
    | ok i =>
      obtain ⟨op', mode, hc, hm, rfl⟩ := passesChecks_of_decode hd
      obtain rfl := Opcode.eq_of_bits_eq (hc.opcode.symm.trans hop)
      exact absurd ((hP ..).2 ⟨mode, cmdBool w, rfl, (cmdWord_build hc hm a1).symm, hc.countRange⟩) (hnone _)

/-! ## SET_SPEED (R122 to R124) -/

/-- R122 where the speed is not positive: the sentinel. -/
theorem intervalFor_of_nonpos {rpm : Word} (h : rpm.toInt ≤ 0) (spr : Nat) (m : MicrostepMode) :
    intervalFor spr m rpm = 1000000 := if_pos h

/-- R122 where the speed is positive: `sint32` then reads the word as it stands. -/
theorem intervalFor_of_pos {rpm : Word} (h : 0 < rpm.toInt) (spr : Nat) (m : MicrostepMode) :
    intervalFor spr m rpm = max 1 (60000000 / (spr * 2 ^ m.code.toNat * rpm.toNat)) := by
  have hrpm : rpm.toInt.toNat = rpm.toNat := by
    rw [BitVec.toInt_eq_toNat_of_lt (BitVec.toInt_pos_iff.1 h.le), Int.toNat_natCast]
  rw [← hrpm]
  exact if_neg (not_le.2 h)

/-- R123: the quotient is at most 60 000 000, and the sentinel is below that. -/
theorem intervalFor_le (spr : Nat) (m : MicrostepMode) (rpm : Word) : intervalFor spr m rpm ≤ 60000000 := by
  obtain h | h := le_or_gt rpm.toInt 0
  · rw [intervalFor_of_nonpos h]; decide
  · rw [intervalFor_of_pos h]; exact max_le (by decide) (Nat.div_le_self ..)

/-- R123: the interval is written to the 32-bit `pulse_interval` without loss. -/
theorem setSpeed_pulseInterval {rpm : Word} {s t : State} (h : exec (.setSpeed rpm) s = .next t) :
    t.pulseInterval.toNat = intervalFor s.params.spr s.microstepMode rpm := by
  cases h
  exact (BitVec.toNat_ofNat ..).trans (Nat.mod_eq_of_lt (intervalFor_range ..).2)

/-- SET_SPEED writes `pulse_interval` and ends with RESULT 0 (R122). -/
theorem setSpeed_frame {rpm : Word} {s t : State} (h : exec (.setSpeed rpm) s = .next t) :
    t = { s with pulseInterval := t.pulseInterval, result := 0#32, err := .none, phase := .idle } := by
  cases h
  rfl

/-- Settles O20: the frame, R122's two branches written without loss, and the one CMD word of SET_SPEED. -/
theorem setSpeedComputesTheInterval : Obligations.SetSpeedComputesTheInterval := by
  constructor
  · intro rpm s
    obtain ⟨t, ht⟩ := exec_next (.setSpeed rpm) s
    refine ⟨t, ht, setSpeed_frame ht, ?_⟩
    rw [setSpeed_pulseInterval ht]
    exact ⟨fun h => intervalFor_of_nonpos h .., fun h => intervalFor_of_pos h ..⟩
  · refine opcodeSpells_of_build (op := .setSpeed) fun w a0 a1 i => ⟨?_, ?_⟩
    · rintro ⟨rfl, rfl⟩
      exact ⟨.full, false, rfl, (cmdWord_setSpeed a0).symm, nofun⟩
    · rintro ⟨mode, b, rfl, rfl, -⟩
      exact ⟨cmdWord_setSpeed a0, rfl⟩

/-- Settles O21: the bounds are those of R122's interval, and 60 * 1 * 1 pulses a minute are 1 000 000 µs apart. -/
theorem setSpeedIntervalIsInRange : Obligations.SetSpeedIntervalIsInRange := by
  constructor
  · intro rpm s
    obtain ⟨t, ht⟩ := exec_next (.setSpeed rpm) s
    refine ⟨t, ht, ?_⟩
    rw [setSpeed_pulseInterval ht]
    exact ⟨(intervalFor_range ..).1, intervalFor_le .., fun h => intervalFor_of_nonpos h ..⟩
  · intro s t hspr hmode ht
    rw [setSpeed_pulseInterval ht, hspr, hmode]
    decide

/-! ## MSPS (R120, R121) -/

/-- Settles O19: the divisor of each mode by R120's table, and the CMD words of MSPS, one for each mode. -/
theorem mspsReturnsTheDivisor : Obligations.MspsReturnsTheDivisor := by
  constructor
  · intro m s
    cases m <;> rfl
  · refine opcodeSpells_of_build (op := .msps) fun w a0 a1 i => ⟨?_, ?_⟩
    · rintro ⟨m, rfl, rfl⟩
      exact ⟨m, false, rfl, (cmdWord_msps m).symm, nofun⟩
    · rintro ⟨m, b, rfl, rfl, -⟩
      exact ⟨m, cmdWord_msps m, rfl⟩

end Sys2Proof.Machine

/-! PROOF. The Stepping Engine: `Advance` (R142), the net effect and the frame of STEP (R141, R144), R145's bounds on
its pulses, and the way of its sequencer through R44's points (R140, R147). -/

namespace Sys2Proof.Machine

/-! ## Advance (R142) -/

/-- `Advance` forwards in `[0, SPR)`: no 32-bit wrap, as SPR is at most 2^31 - 1. -/
theorem advance_forward_position {s : State} (hv : s.params.valid = true) (h : s.position.toNat < s.params.spr) :
    (advance true s).position.toNat = if s.position.toNat = s.params.spr - 1 then 0 else s.position.toNat + 1 := by
  obtain ⟨hlow, hhigh⟩ := spr_range_of_valid hv
  simp only [advance, if_true]
  split
  · next hend => rw [if_pos (by omega)]; rfl
  · next hend => rw [if_neg (by omega), BitVec.toNat_add_of_lt (by simp; omega)]; rfl

/-- `Advance` backwards: SPR - 1 fits in 32 bits. -/
theorem advance_backward_position {s : State} (hv : s.params.valid = true) :
    (advance false s).position.toNat = if s.position.toNat = 0 then s.params.spr - 1 else s.position.toNat - 1 := by
  obtain ⟨hlow, hhigh⟩ := spr_range_of_valid hv
  have hzero : s.position = 0#32 ↔ s.position.toNat = 0 := BitVec.toNat_inj.symm
  simp only [advance, Bool.false_eq_true, if_false, hzero]
  split
  · rw [BitVec.toNat_ofNat]; omega
  · next hne => rw [BitVec.toNat_sub_of_le (by simp [BitVec.le_def]; omega)]; rfl

/-- Settles O24: the two ends of `Advance`, one `Advance` in each turn of the loop, and R50's frame of the other
commands. -/
theorem advanceWrapsAtBothEnds : Obligations.AdvanceWrapsAtBothEnds :=
  ⟨fun _ hv h => ⟨advance_forward_position hv h, advance_backward_position hv⟩,
    fun fwd s => ⟨pacedPulse_position fwd s, pacedPulse_lastPulseTime fwd s⟩,
    fun _ _ _ hi he => (exec_position he hi).1⟩

/-! ## The net effect of STEP (R144) -/

/-- The change of `position` that one `Advance` makes, the wrap left out. -/
def unitStep (fwd : Bool) : Int := if fwd then 1 else -1

/-- `Advance` moves by one modulo SPR (R142). -/
theorem advance_position_emod {s : State} (hv : s.params.valid = true) (h : s.position.toNat < s.params.spr)
    (fwd : Bool) :
    ((advance fwd s).position.toNat : Int) = ((s.position.toNat : Int) + unitStep fwd) % (s.params.spr : Int) := by
  obtain ⟨hlow, -⟩ := spr_range_of_valid hv
  cases fwd with
  | true =>
    rw [advance_forward_position hv h, unitStep, if_pos rfl]
    split
    · next hend =>
      have hw : (s.position.toNat : Int) + 1 = s.params.spr := by omega
      rw [hw, Int.emod_self]; rfl
    · rw [Int.emod_eq_of_lt (by omega) (by omega)]; rfl
  | false =>
    rw [advance_backward_position hv, unitStep, if_neg Bool.false_ne_true]
    split
    · next hend =>
      rw [hend, ← Int.add_emod_right, Int.emod_eq_of_lt (by omega) (by omega)]; omega
    · rw [Int.emod_eq_of_lt (by omega) (by omega)]; omega

/-- `n` turns of STEP's loop move `position` by `n` modulo SPR. -/
theorem pacedPulses_position {s : State} (hv : s.params.valid = true) (h : s.position.toNat < s.params.spr)
    (fwd : Bool) (n : Nat) :
    ((pacedPulses fwd n s).position.toNat : Int)
      = ((s.position.toNat : Int) + n * unitStep fwd) % (s.params.spr : Int) := by
  induction n generalizing s with
  | zero =>
    rw [Int.emod_eq_of_lt (by omega) (by omega)]
    simp [pacedPulses]
  | succ n ih =>
    have hlt : (pacedPulse fwd s).position.toNat < s.params.spr := by
      rw [pacedPulse_position]; exact advance_position_lt hv h fwd
    have hturn := ih (s := pacedPulse fwd s) (by simpa using hv) (by simpa using hlt)
    rw [pacedPulse_params, pacedPulse_position, advance_position_emod hv h, Int.emod_add_emod] at hturn
    rw [pacedPulses, hturn]
    congr 1; push_cast; ring

/-- The last turn of STEP's loop, taken apart from those before it. -/
theorem pacedPulses_succ_last (fwd : Bool) (n : Nat) (s : State) :
    pacedPulses fwd (n + 1) s = pacedPulse fwd (pacedPulses fwd n s) := by
  induction n generalizing s with
  | zero => rfl
  | succ n ih => exact ih (pacedPulse fwd s)

/-- A count is its magnitude in its direction (R141). -/
theorem natAbs_mul_unitStep (c : Int) : (c.natAbs : Int) * unitStep (decide (0 < c)) = c := by
  unfold unitStep
  by_cases h : 0 < c
  · simp [h, abs_of_pos h]
  · simp [h, abs_of_nonpos (not_lt.1 h)]

/-- STEP with a count that spells a command (R92): DIR's write, then the loop (R141). -/
theorem exec_step {c : Word} (hc : c ≠ 0x80000000#32) (s : State) :
    exec (.step c) s
      = .next (complete 0#32 (pacedPulses (decide (0 < c.toInt)) c.toInt.natAbs
          (pinWrite .dir (decide (0 < c.toInt)) s))) :=
  congrArg Host.Outcome.next (if_pos ((isCount_iff c).2 hc))

theorem pinWrite_dir_emits (fwd : Bool) (s : State) : Emits s (pinWrite .dir fwd s) (dirShape s.params fwd) :=
  pinWrite_emits .dir fwd s

/-- Settles O22: DIR's write leaves `position`, and each turn of the loop advances it and emits one pulse. -/
theorem stepMovesThePosition : Obligations.StepMovesThePosition := by
  intro c s hc hv hpos
  refine ⟨_, exec_step hc s, ?_, ?_, rfl, rfl, rfl, fun h0 => ?_, fun n hn => ?_⟩
  · have h := pacedPulses_position (s := pinWrite .dir (decide (0 < c.toInt)) s) (by simpa using hv)
      (by simpa using hpos) (decide (0 < c.toInt)) c.toInt.natAbs
    rwa [natAbs_mul_unitStep, pinWrite_position, pinWrite_params] at h
  · have h := pacedPulses_emits (decide (0 < c.toInt)) c.toInt.natAbs (pinWrite .dir (decide (0 < c.toInt)) s)
    rw [pulseShape, pinWrite_hasPin] at h
    exact ((pinWrite_dir_emits _ s).trans h).congr_right rfl rfl
  · rw [h0, Int.natAbs_zero]
    exact pinWrite_lastPulseTime ..
  · rw [hn, pacedPulses_succ_last]; rfl

/-! ## The frame of STEP (R50, R141) -/

theorem pulseCount_ne_zero_iff (c : Word) : pulseCount c ≠ 0 ↔ c ≠ 0#32 := by
  rw [pulseCount, Ne, Int.natAbs_eq_zero, ← BitVec.toInt_zero (w := 32), BitVec.toInt_inj]

/-- The pins that STEP leaves: none of them changes where the count spells no command (R92). -/
theorem step_pins {c : Word} {s t : State} (he : exec (.step c) s = .next t) :
    t.pins = if c = 0x80000000#32 then s.pins
      else
        { s.pins with
          dir := if s.params.present.dir then decide (0 < c.toInt) else s.pins.dir
          step := if s.params.present.step = true ∧ c ≠ 0#32 then true else s.pins.step } := by
  rw [exec_pins he, commandPins]
  by_cases hc : c = 0x80000000#32
  · rw [if_pos hc, hc]; rfl
  · rw [if_neg hc, if_pos ((isCount_iff c).2 hc), steppedPins]
    simp only [pulseCount_ne_zero_iff]; rfl

/-- RESULT is 0, and ERR is ILLEGAL where the count spells no command (R92, R225). -/
theorem step_status {c : Word} {s t : State} (he : exec (.step c) s = .next t) :
    t.result = 0#32 ∧ t.err = if c = 0x80000000#32 then .illegal else .none := by
  by_cases hc : c = 0x80000000#32
  · subst hc; cases he; exact ⟨rfl, rfl⟩
  · rw [exec_step hc] at he; cases he
    exact ⟨rfl, (if_neg hc).symm⟩

/-- Settles O23: what no command writes, the rows of R50's table that are not STEP's, and what STEP writes. -/
theorem stepLeavesTheRestUnchanged : Obligations.StepLeavesTheRestUnchanged := by
  intro c s t he
  obtain ⟨hk, hidle⟩ := exec_kept he
  obtain ⟨hresult, herr⟩ := step_status he
  rw [← step_pins he, ← hresult, ← herr, ← hidle, ← exec_pulseInterval he nofun, ← exec_microstepMode he nofun,
    ← exec_enabled he nofun nofun, ← hk.params, ← hk.arg0, ← hk.arg1, ← hk.faults, ← hk.mark, ← hk.host, ← hk.data,
    ← hk.env, ← hk.clockStop, ← hk.observed]

/-! ## R145's bounds on the pulses of STEP -/

/-- The times of one turn of STEP's loop begun in `s` (R141, R143). -/
def turnTimes (s : State) : PacedTimes where
  fall := (pinWrite .step false (waitPace s)).clock
  rise := (pulse (waitPace s)).clock
  release := (waitPace s).clock

/-- The times of the turns of STEP's loop, in their order. -/
def pacedTimes (fwd : Bool) : Nat → State → List PacedTimes
  | 0, _ => []
  | n + 1, s => turnTimes s :: pacedTimes fwd n (pacedPulse fwd s)

theorem length_pacedTimes (fwd : Bool) (n : Nat) (s : State) : (pacedTimes fwd n s).length = n := by
  induction n generalizing s with
  | zero => rfl
  | succ n ih => simp [pacedTimes, ih]

/-- A pulse with STEP present is two events, at the clock after each write (R143). -/
theorem pulse_trace {s : State} (h : s.hasPin .step = true) :
    (pulse s).trace
      = s.trace ++ PulseTimes.events ⟨(pinWrite .step false s).clock, (pulse s).clock⟩ := by
  obtain ⟨hlow, -, -⟩ := pinWrite_present (o := .step) h false
  obtain ⟨hhigh, -, -⟩ := pinWrite_present (o := .step)
    (s := delayUs s.params.pulseWidthUs (pinWrite .step false s)) ((pinWrite_hasPin ..).trans h) true
  rw [delayUs_trace, hlow, List.append_assoc] at hhigh
  exact hhigh

/-- A turn of STEP's loop appends its pulse's events (R141). -/
theorem pacedPulse_trace {s : State} (h : s.hasPin .step = true) (fwd : Bool) :
    (pacedPulse fwd s).trace = s.trace ++ (turnTimes s).events := by
  have hp := pulse_trace (s := waitPace s) (by simpa using h)
  rw [waitPace_trace] at hp
  exact (advance_trace ..).trans hp

theorem pacedPulses_trace {s : State} (h : s.hasPin .step = true) (fwd : Bool) (n : Nat) :
    (pacedPulses fwd n s).trace = s.trace ++ (pacedTimes fwd n s).flatMap PacedTimes.events := by
  induction n generalizing s with
  | zero => simp [pacedPulses, pacedTimes]
  | succ n ih =>
    rw [pacedPulses, ih (by simpa using h), pacedPulse_trace h, List.append_assoc]
    rfl

/-- R145's bounds within one turn of the loop. -/
theorem turnTimes_bounds (s : State) :
    s.clock ≤ (turnTimes s).release ∧ s.lastPulseTime + s.pulseInterval.toNat ≤ (turnTimes s).release
      ∧ (turnTimes s).release ≤ (turnTimes s).fall
      ∧ (turnTimes s).fall + s.params.pulseWidthUs ≤ (turnTimes s).rise := by
  have hfall := pinWrite_emits .step false (waitPace s)
  have hwidth := delayUs_clock_le s.params.pulseWidthUs (pinWrite .step false (waitPace s))
  have hrise := pinWrite_emits .step true (delayUs s.params.pulseWidthUs (pinWrite .step false (waitPace s)))
  exact ⟨(waitPace_emits s).clock_le, waitPace_clock_le s, hfall.clock_le, hwidth.trans hrise.clock_le⟩

/-- R145's bounds over the turns of the loop: each begins at the clock and the release that the one before it left. -/
theorem pacedTimes_pacedFrom (fwd : Bool) (n : Nat) (s : State) :
    PacedFrom s.pulseInterval.toNat s.params.pulseWidthUs s.clock s.lastPulseTime (pacedTimes fwd n s) := by
  induction n generalizing s with
  | zero => trivial
  | succ n ih =>
    obtain ⟨hclock, hpace, hfall, hrise⟩ := turnTimes_bounds s
    have hrest := ih (pacedPulse fwd s)
    rw [pacedPulse_pulseInterval, pacedPulse_params, advance_pacedPulse_clock] at hrest
    exact ⟨hclock, hpace, hfall, hrise, hrest⟩

/-- The bounds hold from any earlier clock too. -/
theorem PacedFrom.of_clock_le {interval width clock clock' last : Nat} {ps : List PacedTimes}
    (h : PacedFrom interval width clock last ps) (hc : clock' ≤ clock) :
    PacedFrom interval width clock' last ps := by
  cases ps with
  | nil => trivial
  | cons p ps =>
    obtain ⟨hclock, hrest⟩ := h
    exact ⟨hc.trans hclock, hrest⟩

theorem pacedPulses_lastPulseTime (fwd : Bool) (n : Nat) (s : State) :
    (pacedPulses fwd n s).lastPulseTime
      = ((pacedTimes fwd n s).getLast?.map PacedTimes.release).getD s.lastPulseTime := by
  induction n generalizing s with
  | zero => rfl
  | succ n ih =>
    rw [pacedPulses, ih, pacedPulse_lastPulseTime, pacedTimes, List.getLast?_cons]
    cases (pacedTimes fwd n (pacedPulse fwd s)).getLast? <;> rfl

theorem pacedTimes_rise_le (fwd : Bool) (n : Nat) (s : State) :
    ∀ p ∈ pacedTimes fwd n s, p.rise ≤ (pacedPulses fwd n s).clock := by
  induction n generalizing s with
  | zero => simp [pacedTimes]
  | succ n ih =>
    have hend := (pacedPulses_emits fwd n (pacedPulse fwd s)).clock_le
    rw [advance_pacedPulse_clock] at hend
    exact List.forall_mem_cons.2 ⟨hend, ih (pacedPulse fwd s)⟩

/-- Settles O25: the pulses are those of `pacedTimes`, begun once DIR is written; a turn's bounds need no STEP pin. -/
theorem stepPulsesArePaced : Obligations.StepPulsesArePaced := by
  constructor
  · intro c s hc hstep
    obtain ⟨hclock, dirs, htrace, hshape, -, -⟩ := pinWrite_dir_emits (decide (0 < c.toInt)) s
    have hpaced := pacedTimes_pacedFrom (decide (0 < c.toInt)) c.toInt.natAbs (pinWrite .dir (decide (0 < c.toInt)) s)
    rw [pinWrite_pulseInterval, pinWrite_params, pinWrite_lastPulseTime] at hpaced
    refine ⟨_, dirs, pacedTimes _ _ _, exec_step hc s, ?_, hshape, length_pacedTimes .., hpaced.of_clock_le hclock, ?_,
      pacedTimes_rise_le _ _ _⟩
    · rw [← htrace]
      exact pacedPulses_trace ((pinWrite_hasPin ..).trans hstep) _ _
    · have hlast := pacedPulses_lastPulseTime (decide (0 < c.toInt)) c.toInt.natAbs
        (pinWrite .dir (decide (0 < c.toInt)) s)
      rwa [pinWrite_lastPulseTime] at hlast
  · intro fwd s
    refine ⟨(waitPace_emits s).clock_le, waitPace_clock_le s, ?_, pacedPulse_pulseInterval s fwd⟩
    rw [advance_pacedPulse_clock]
    exact pulse_clock_le (waitPace s)

/-! ## The sequencer of STEP, point by point (R44, R141) -/

section
variable {s : State} {c : Word} {point : Nat} {l : Locals} (hph : s.phase = .run (.step c) point l)
include hph

theorem stepPoint?_eq_none_iff : s.stepPoint? = none ↔ point = 0 ∨ point = 1 ∧ pulseCount c ≤ l.n := by
  simp only [State.stepPoint?, hph]; split_ifs <;> simp <;> omega

theorem stepPoint?_eq_poll_iff : s.stepPoint? = some .poll ↔ point = 2 := by
  simp only [State.stepPoint?, hph]; split_ifs <;> simp_all

theorem stepPoint?_eq_pulse_iff :
    s.stepPoint? = some .pulse ↔ 3 ≤ point ∧ point ≤ 8 ∨ point = 1 ∧ l.n < pulseCount c := by
  simp only [State.stepPoint?, hph]; split_ifs <;> simp <;> omega

theorem stepPoint?_eq_done_iff : s.stepPoint? = some .done ↔ 9 ≤ point := by
  simp only [State.stepPoint?, hph]; split_ifs <;> simp <;> omega

/-- At a point of the script a move performs the primitive there. -/
theorem blockMove_step {p : Prim} (hp : (script s.params (.step c))[point]? = some p) :
    blockMove s = perform (.step c) point l s p := by
  simp [blockMove, hph, hp]

end

section
variable {s : State} {c : Word} {l : Locals}

/-- DIR's write leads to the loop test. -/
theorem blockMove_step_dir (hph : s.phase = .run (.step c) 0 l) : (blockMove s).phase = .run (.step c) 1 l := by
  rw [blockMove_step hph rfl]; rfl

/-- The loop test leads to POLL while pulses are left, and else to DONE. -/
theorem blockMove_step_test (hph : s.phase = .run (.step c) 1 l) :
    (blockMove s).stepPoint? = if l.n = 0 then some .done else some .poll := by
  have hm : (blockMove s).phase = .run (.step c) (if l.n = 0 then 9 else 2) l := by rw [blockMove_step hph rfl]; rfl
  split at hm
  · next h0 => rw [if_pos h0, (stepPoint?_eq_done_iff hm).2 le_rfl]
  · next h0 => rw [if_neg h0, (stepPoint?_eq_poll_iff hm).2 rfl]

/-- At POLL a sample at which the pacing condition holds is kept and releases the pulse; at any other only the clock
moves (R140, R145). -/
theorem blockMove_step_poll (hph : s.phase = .run (.step c) 2 l) :
    (s.lastPulseTime + s.pulseInterval.toNat ≤ (blockMove s).clock
        ∧ (blockMove s).phase = .run (.step c) 3 { l with t := (blockMove s).clock })
      ∨ ((blockMove s).clock < s.lastPulseTime + s.pulseInterval.toNat ∧ blockMove s = sampleClock s) := by
  rw [blockMove_step hph rfl, perform]
  split
  · next hpace => exact .inl ⟨hpace, rfl⟩
  · next hpace => exact .inr ⟨not_le.1 hpace, rfl⟩

/-- A move inside the pulse stays inside it, or ends it at the loop test with the count taken down by one. -/
theorem blockMove_step_pulse {point : Nat} (hph : s.phase = .run (.step c) point l) (h3 : 3 ≤ point) (h8 : point ≤ 8) :
    ∃ point' l', (blockMove s).phase = .run (.step c) point' l'
      ∧ (3 ≤ point' ∧ point' ≤ 8 ∨ point' = 1 ∧ l'.n = l.n - 1) := by
  have hpt : point = 4 ∨ point = 8 ∨ point = 3 ∨ point = 5 ∨ point = 6 ∨ point = 7 := by omega
  obtain rfl | rfl | hnext := hpt
  · rw [blockMove_step hph rfl, perform]
    split <;> [skip; split]
    · exact ⟨_, _, rfl, .inl (by decide)⟩
    · exact ⟨_, _, rfl, .inl (by decide)⟩
    · exact ⟨_, _, hph, .inl (by decide)⟩
  · rw [blockMove_step hph rfl]
    exact ⟨_, _, rfl, .inr ⟨rfl, rfl⟩⟩
  · obtain rfl | rfl | rfl | rfl := hnext <;> rw [blockMove_step hph rfl] <;>
      exact ⟨_, _, rfl, .inl (by decide)⟩

/-- From DONE a move writes RESULT and then ends the command (R141, R91). -/
theorem blockMove_step_done {point : Nat} (hph : s.phase = .run (.step c) point l) (h : 9 ≤ point) :
    (blockMove s).phase = .run (.step c) 10 l ∨ (blockMove s).phase = .idle := by
  obtain rfl | hend := h.eq_or_lt
  · rw [blockMove_step hph rfl]
    exact .inl rfl
  · have hnone : (script s.params (.step c))[point]? = none := List.getElem?_eq_none hend
    simp [blockMove, hph, hnone, finish]

end

/-- Settles O54: R44's points are the points of STEP's script, and each of them leads where R141 says; the invariant
gives the count at the first point and that it is not 0 inside the loop. -/
theorem stepGoesThroughPendingPulsedAndDone : Obligations.StepGoesThroughPendingPulsedAndDone := by
  intro s c point l hinv hph
  have hr := (phaseInv_run hph).1 hinv.phase
  have hcount : l.n ≤ pulseCount c := hr.count
  refine ⟨fun h => ?_, fun h => ?_, fun h => ?_, fun h => ?_⟩
  · obtain rfl | ⟨rfl, hn⟩ := (stepPoint?_eq_none_iff hph).1 h
    · have hn : l.n = pulseCount c := hr.atStart rfl
      have hm := (stepPoint?_eq_none_iff (blockMove_step_dir hph)).2 (.inr ⟨rfl, hn.ge⟩)
      exact ⟨hn, by simp [hm]⟩
    · refine ⟨hcount.antisymm hn, ?_⟩
      rw [blockMove_step_test hph]
      split <;> simp
  · obtain rfl := (stepPoint?_eq_poll_iff hph).1 h
    obtain ⟨-, hm⟩ | ⟨-, hm⟩ := blockMove_step_poll hph
    · simp [(stepPoint?_eq_pulse_iff hm).2 (.inl (by decide))]
    · rw [hm, (stepPoint?_eq_poll_iff (s := sampleClock s) hph).2 rfl]; simp
  · obtain ⟨h3, h8⟩ | ⟨rfl, hn⟩ := (stepPoint?_eq_pulse_iff hph).1 h
    · have hpos : 0 < l.n := hr.inside (by simp [insideLoop]; omega)
      obtain ⟨point', l', hm, hgo⟩ := blockMove_step_pulse hph h3 h8
      have hp := (stepPoint?_eq_pulse_iff hm).2 (hgo.imp_right fun ⟨hpt, hn'⟩ => ⟨hpt, by omega⟩)
      simp [hp]
    · rw [blockMove_step_test hph]
      split <;> simp
  · exact (blockMove_step_done hph ((stepPoint?_eq_done_iff hph).1 h)).imp_left fun hm =>
      (stepPoint?_eq_done_iff hm).2 (by decide)

/-- A primitive leaves `last_pulse_time` or makes it the release sample kept (R141). -/
theorem perform_lastPulseTime (c : Instr) (point : Nat) (l : Locals) (s : State) (p : Prim) :
    (perform c point l s p).lastPulseTime = s.lastPulseTime ∨ (perform c point l s p).lastPulseTime = l.t := by
  cases p with
  | stamp => exact .inr rfl
  | delay us =>
    left
    simp only [perform]
    split <;> [skip; split] <;> rfl
  | waitPace => left; simp only [perform]; split <;> rfl
  | pinWrite | cfgOutLow | cfgInPullup | advance => left; simp [perform]
  | whileMore | again | loadCode | setMode | setEnabled | setInterval | result | resultEnabled | resultFault | raise =>
    exact .inl rfl

/-- Settles O55: the poll's two cases, and `stamp`, which alone writes `last_pulse_time`. -/
theorem pacedPulseWaitsForItsInterval : Obligations.PacedPulseWaitsForItsInterval := by
  constructor
  · intro s c point l hph hpoll
    obtain rfl := (stepPoint?_eq_poll_iff hph).1 hpoll
    obtain ⟨hpace, hm⟩ | ⟨hpace, hm⟩ := blockMove_step_poll hph
    · exact .inl ⟨hpace, (stepPoint?_eq_pulse_iff hm).2 (.inl (by decide)), hm⟩
    · exact .inr ⟨hpace, hm, hm ▸ hpoll⟩
  · intro s c point l hph hne
    cases hp : (script s.params (.step c))[point]? with
    | none => exact absurd (by simp [blockMove, hph, hp]) hne
    | some p =>
      rw [blockMove_step hph hp] at hne ⊢
      exact (perform_lastPulseTime ..).resolve_left hne

end Sys2Proof.Machine

/-! PROOF. The Blocking Step: the net effect, the frame and the words of STEP_FIXED (R160), R162's bounds on its pulses,
and what its cadence does not depend on. -/

namespace Sys2Proof.Machine

/-! ## The net effect and the frame of STEP_FIXED (R160) -/

/-- STEP_FIXED with a count that spells a command (R92): DIR's write, then the loop (R160). -/
theorem exec_stepFixed {c : Word} (hc : c ≠ 0x80000000#32) (w : Word) (s : State) :
    exec (.stepFixed c w) s
      = .next (complete 0#32 (fixedPulses (w.toNat * s.params.fixedUnit.us) c.toInt.natAbs
          (pinWrite .dir (decide (0 < c.toInt)) s))) :=
  congrArg Host.Outcome.next (if_pos ((isCount_iff c).2 hc))

/-- Every turn of the loop takes its pulse's width and its wait, whether or not STEP is present (R162, R146). -/
theorem fixedPulses_clock_le (waitUs n : Nat) (s : State) :
    s.clock + n * (s.params.pulseWidthUs + waitUs) ≤ (fixedPulses waitUs n s).clock := by
  induction n generalizing s with
  | zero => simp [fixedPulses]
  | succ n ih =>
    have hturn := fixedPulse_clock_le waitUs s
    have hrest := ih (fixedPulse waitUs s)
    rw [fixedPulse_params] at hrest
    rw [fixedPulses, Nat.succ_mul]
    omega

section
variable {c w : Word} {s t : State} (hc : c ≠ 0x80000000#32) (he : exec (.stepFixed c w) s = .next t)
include hc he

/-- The pins that STEP_FIXED leaves (R160). -/
theorem stepFixed_pins :
    t.pins =
      { s.pins with
        dir := if s.params.present.dir then decide (0 < c.toInt) else s.pins.dir
        step := if s.params.present.step = true ∧ c ≠ 0#32 then true else s.pins.step } := by
  rw [exec_pins he, commandPins, if_pos ((isCount_iff c).2 hc), steppedPins]
  simp only [pulseCount_ne_zero_iff]; rfl

/-- RESULT is 0 and ERR is NONE (R160). -/
theorem stepFixed_status : t.result = 0#32 ∧ t.err = .none := by
  rw [exec_stepFixed hc] at he; cases he
  exact ⟨rfl, rfl⟩

/-- What no command writes, the rows of R50's table that are not STEP_FIXED's, and what STEP_FIXED writes. -/
theorem stepFixed_frame :
    t = { s with
        pins :=
          { s.pins with
            dir := if s.params.present.dir then decide (0 < c.toInt) else s.pins.dir
            step := if s.params.present.step = true ∧ c ≠ 0#32 then true else s.pins.step }
        trace := t.trace
        clock := t.clock
        lull := t.lull
        draws := t.draws
        result := 0#32
        err := .none
        phase := .idle } := by
  obtain ⟨hk, hidle⟩ := exec_kept he
  obtain ⟨hresult, herr⟩ := stepFixed_status hc he
  obtain ⟨hposition, hlast⟩ := exec_position he nofun
  rw [← stepFixed_pins hc he, ← hresult, ← herr, ← hidle, ← hposition, ← hlast, ← exec_pulseInterval he nofun,
    ← exec_microstepMode he nofun, ← exec_enabled he nofun nofun, ← hk.params, ← hk.arg0, ← hk.arg1, ← hk.faults,
    ← hk.mark, ← hk.host, ← hk.data, ← hk.env, ← hk.clockStop, ← hk.observed]

/-- The events of STEP_FIXED: DIR's write and then its pulses (R160). -/
theorem stepFixed_emits :
    Emits s t (dirShape s.params (decide (0 < c.toInt)) ++ pulsesShape s.params c.toInt.natAbs) := by
  rw [exec_stepFixed hc] at he; cases he
  have h := fixedPulses_emits (w.toNat * s.params.fixedUnit.us) c.toInt.natAbs
    (pinWrite .dir (decide (0 < c.toInt)) s)
  rw [pulseShape, pinWrite_hasPin] at h
  exact ((pinWrite_dir_emits _ s).trans h).congr_right rfl rfl

/-- STEP_FIXED takes at least the time of its turns (R162). -/
theorem stepFixed_clock_le :
    s.clock + c.toInt.natAbs * (s.params.pulseWidthUs + w.toNat * s.params.fixedUnit.us) ≤ t.clock := by
  rw [exec_stepFixed hc] at he; cases he
  have hdir := (pinWrite_dir_emits (decide (0 < c.toInt)) s).clock_le
  have hloop := fixedPulses_clock_le (w.toNat * s.params.fixedUnit.us) c.toInt.natAbs
    (pinWrite .dir (decide (0 < c.toInt)) s)
  rw [pinWrite_params] at hloop
  exact (Nat.add_le_add_right hdir _).trans hloop

end

/-- Settles O27: the frame, the events and the time of a legal count, `Err(ILLEGAL)` for the other, and the one CMD word
of STEP_FIXED. -/
theorem stepFixedEmitsWithoutTracking : Obligations.StepFixedEmitsWithoutTracking := by
  refine ⟨fun c w s hc => ?_, fun _ _ => rfl, opcodeSpells_of_build (op := .stepFixed) fun w a0 a1 i => ⟨?_, ?_⟩⟩
  · obtain ⟨t, ht⟩ := exec_next (.stepFixed c w) s
    exact ⟨t, ht, stepFixed_frame hc ht, stepFixed_emits hc ht, stepFixed_clock_le hc ht⟩
  · rintro ⟨rfl, ha0, rfl⟩
    exact ⟨.full, false, rfl, (cmdWord_stepFixed a0 a1).symm, fun _ => (isCount_iff a0).2 ha0⟩
  · rintro ⟨mode, b, rfl, rfl, hcount⟩
    exact ⟨cmdWord_stepFixed a0 a1, (isCount_iff a0).1 (hcount rfl), rfl⟩

/-! ## R162's bounds on the pulses of STEP_FIXED -/

/-- The times of one pulse begun in `s` (R143). -/
def pulseTimes (s : State) : PulseTimes where
  fall := (pinWrite .step false s).clock
  rise := (pulse s).clock

/-- A pulse does not begin before `s` and is low for PULSE_WIDTH_US (R143). -/
theorem pulseTimes_bounds (s : State) :
    s.clock ≤ (pulseTimes s).fall ∧ (pulseTimes s).fall + s.params.pulseWidthUs ≤ (pulseTimes s).rise :=
  have hwidth := delayUs_clock_le s.params.pulseWidthUs (pinWrite .step false s)
  have hrise := pinWrite_emits .step true (delayUs s.params.pulseWidthUs (pinWrite .step false s))
  ⟨(pinWrite_emits .step false s).clock_le, hwidth.trans hrise.clock_le⟩

/-- The times of the pulses of STEP_FIXED's loop, in their order. -/
def fixedTimes (waitUs : Nat) : Nat → State → List PulseTimes
  | 0, _ => []
  | n + 1, s => pulseTimes s :: fixedTimes waitUs n (fixedPulse waitUs s)

theorem length_fixedTimes (waitUs n : Nat) (s : State) : (fixedTimes waitUs n s).length = n := by
  induction n generalizing s with
  | zero => rfl
  | succ n ih => simp [fixedTimes, ih]

/-- A turn of STEP_FIXED's loop appends its pulse's events, and the wait none (R160). -/
theorem fixedPulse_trace {s : State} (h : s.hasPin .step = true) (waitUs : Nat) :
    (fixedPulse waitUs s).trace = s.trace ++ (pulseTimes s).events :=
  (delayUs_trace ..).trans (pulse_trace h)

theorem fixedPulses_trace {s : State} (h : s.hasPin .step = true) (waitUs n : Nat) :
    (fixedPulses waitUs n s).trace = s.trace ++ (fixedTimes waitUs n s).flatMap PulseTimes.events := by
  induction n generalizing s with
  | zero => simp [fixedPulses, fixedTimes]
  | succ n ih =>
    rw [fixedPulses, ih (by simpa using h), fixedPulse_trace h, List.append_assoc]
    rfl

/-- The bounds hold from any earlier clock too. -/
theorem CadenceFrom.of_clock_le {wait width finish clock clock' : Nat} {ps : List PulseTimes}
    (h : CadenceFrom wait width finish clock ps) (hc : clock' ≤ clock) : CadenceFrom wait width finish clock' ps := by
  cases ps with
  | nil => exact hc.trans h
  | cons p ps =>
    obtain ⟨hclock, hrest⟩ := h
    exact ⟨hc.trans hclock, hrest⟩

/-- R162's bounds over the turns of the loop: each ends no earlier than its pulse's wait after the rise. -/
theorem fixedTimes_cadenceFrom (waitUs n : Nat) (s : State) :
    CadenceFrom waitUs s.params.pulseWidthUs (fixedPulses waitUs n s).clock s.clock (fixedTimes waitUs n s) := by
  induction n generalizing s with
  | zero => exact le_rfl
  | succ n ih =>
    obtain ⟨hfall, hrise⟩ := pulseTimes_bounds s
    have hrest := ih (fixedPulse waitUs s)
    rw [fixedPulse_params] at hrest
    exact ⟨hfall, hrise, hrest.of_clock_le (delayUs_clock_le waitUs (pulse s))⟩

/-! ## What the cadence of STEP_FIXED does not depend on (R162) -/

/-- The state `s` with the pacing and the tracking of `u`: its interval, mode, position, last pulse time and SPR. -/
def State.trackedAs (u s : State) : State :=
  { s with
    pulseInterval := u.pulseInterval
    position := u.position
    microstepMode := u.microstepMode
    lastPulseTime := u.lastPulseTime
    params := { s.params with spr := u.params.spr } }

theorem pinWrite_trackedAs (u : State) (o : OutPin) (v : Bool) (s : State) :
    pinWrite o v (u.trackedAs s) = u.trackedAs (pinWrite o v s) := by
  rw [pinWrite, pinWrite, apply_ite u.trackedAs]; rfl

theorem delayUs_trackedAs (u : State) (n : Nat) (s : State) : delayUs n (u.trackedAs s) = u.trackedAs (delayUs n s) :=
  rfl

theorem pulse_trackedAs (u s : State) : pulse (u.trackedAs s) = u.trackedAs (pulse s) := by
  simp only [pulse, pinWrite_trackedAs, delayUs_trackedAs]; rfl

theorem fixedPulses_trackedAs (u : State) (waitUs n : Nat) (s : State) :
    fixedPulses waitUs n (u.trackedAs s) = u.trackedAs (fixedPulses waitUs n s) := by
  induction n generalizing s with
  | zero => rfl
  | succ n ih => simp only [fixedPulses, fixedPulse, pulse_trackedAs, delayUs_trackedAs, ih]

/-- STEP_FIXED neither reads nor writes what `trackedAs` replaces (R160, R162). -/
theorem exec_stepFixed_trackedAs {c w : Word} {s t : State} (u : State) (he : exec (.stepFixed c w) s = .next t) :
    exec (.stepFixed c w) (u.trackedAs s) = .next (u.trackedAs t) := by
  by_cases hc : c = 0x80000000#32
  · subst hc; cases he; rfl
  · rw [exec_stepFixed hc] at he ⊢
    cases he
    rw [pinWrite_trackedAs, fixedPulses_trackedAs]
    rfl

/-- Settles O28: the pulses are those of `fixedTimes`, begun once DIR is written, and `trackedAs` commutes with the
command. -/
theorem stepFixedPulsesKeepTheirCadence : Obligations.StepFixedPulsesKeepTheirCadence := by
  constructor
  · intro c w s hc hstep
    obtain ⟨hclock, dirs, htrace, hshape, -, -⟩ := pinWrite_dir_emits (decide (0 < c.toInt)) s
    have hcadence := fixedTimes_cadenceFrom (w.toNat * s.params.fixedUnit.us) c.toInt.natAbs
      (pinWrite .dir (decide (0 < c.toInt)) s)
    rw [pinWrite_params] at hcadence
    refine ⟨_, dirs, fixedTimes _ _ _, exec_stepFixed hc w s, ?_, hshape, length_fixedTimes ..,
      hcadence.of_clock_le hclock⟩
    rw [← htrace]
    exact fixedPulses_trace ((pinWrite_hasPin ..).trans hstep) _ _
  · intro c w pulseInterval position mode lastPulseTime spr s t he
    exact exec_stepFixed_trackedAs
      { s with
        pulseInterval := pulseInterval
        position := position
        microstepMode := mode
        lastPulseTime := lastPulseTime
        params := { s.params with spr := spr } } he

end Sys2Proof.Machine

/-! PROOF. The Mode Controller: the state, the events and the words of SET_MODE (R178). -/

namespace Sys2Proof.Machine

/-! ## The latch sequence with STBY present (R177) -/

/-- STBY's two writes stand around those of the code lines (R177). -/
theorem latchShape_of_stby {p : Params} (h : p.present.stby = true) (code : BitVec 4) :
    latchShape p code = (.stby, .drive false) :: (codeShape p code ++ [(.stby, .drive true)]) := by
  have hlast : [(Pin.stby, PinAction.drive true)].filter (fun e => p.present.has e.1) = [(.stby, .drive true)] :=
    List.filter_cons_of_pos h
  rw [← hlast, codeShape, ← List.filter_append]
  exact List.filter_cons_of_pos h

/-- The levels that the latch sequence then leaves, STBY high among them (R177, R276). -/
theorem latchedPins_of_stby {present : Present} (h : present.stby = true) (code : BitVec 4) (p : Pins) :
    latchedPins present code p =
      { p with
        ms1 := if present.ms1 then code.getLsbD 0 else p.ms1
        ms2 := if present.ms2 then code.getLsbD 1 else p.ms2
        step := if present.step then code.getLsbD 2 else p.step
        dir := if present.dir then code.getLsbD 3 else p.dir
        stby := true } := by
  rw [latchedPins, if_pos h]

/-! ## The net effect and the frame of SET_MODE (R178) -/

section
variable {m : MicrostepMode} {s t : State} (hp : s.params.present.stby = true)
include hp

/-- SET_MODE with STBY present: the latch sequence, the stored mode and RESULT 1 (R178). -/
theorem exec_setMode_of_stby (m : MicrostepMode) :
    exec (.setMode m) s = .next (complete 1#32 { latchSequence m s with microstepMode := m }) :=
  congrArg Host.Outcome.next (if_pos hp)

variable (he : exec (.setMode m) s = .next t)
include he

/-- The pins that SET_MODE leaves (R177, R178). -/
theorem setMode_pins : t.pins = latchedPins s.params.present (s.params.latch.code m) s.pins := by
  rw [exec_pins he, commandPins, if_pos hp]

/-- The mode is stored, RESULT is 1 and ERR is NONE (R178). -/
theorem setMode_status : t.microstepMode = m ∧ t.result = 1#32 ∧ t.err = .none := by
  rw [exec_setMode_of_stby hp] at he; cases he
  exact ⟨rfl, rfl, rfl⟩

/-- What no command writes, the rows of R50's table that are not SET_MODE's, and what SET_MODE writes. -/
theorem setMode_frame :
    t = { s with
        microstepMode := m
        pins := latchedPins s.params.present (s.params.latch.code m) s.pins
        trace := t.trace
        clock := t.clock
        lull := t.lull
        draws := t.draws
        result := 1#32
        err := .none
        phase := .idle } := by
  obtain ⟨hk, hidle⟩ := exec_kept he
  obtain ⟨hmode, hresult, herr⟩ := setMode_status hp he
  obtain ⟨hposition, hlast⟩ := exec_position he nofun
  rw [← setMode_pins hp he, ← hmode, ← hresult, ← herr, ← hidle, ← hposition, ← hlast, ← exec_pulseInterval he nofun,
    ← exec_enabled he nofun nofun, ← hk.params, ← hk.arg0, ← hk.arg1, ← hk.faults, ← hk.mark, ← hk.host, ← hk.data,
    ← hk.env, ← hk.clockStop, ← hk.observed]

/-- The events of SET_MODE: STBY low and, SETTLE_US later at the earliest, the rest of the latch sequence (R177). -/
theorem setMode_events :
    ∃ (low : PinEvent) (rest : List PinEvent),
      t.trace = s.trace ++ low :: rest
        ∧ (low :: rest).map PinEvent.shape = latchShape s.params (s.params.latch.code m)
        ∧ s.clock ≤ low.time ∧ (rest.Pairwise fun e f => e.time ≤ f.time)
        ∧ ∀ e ∈ rest, low.time + 1000 ≤ e.time ∧ e.time ≤ t.clock := by
  rw [exec_setMode_of_stby hp] at he; cases he
  obtain ⟨low, rest, htrace, hlow, hrest, hclock, -, horder, hsettle⟩ := latchSequence_emits m s hp
  refine ⟨low, rest, htrace, ?_, hclock, horder, hsettle⟩
  rw [latchShape_of_stby hp, List.map_cons, hlow, hrest]

end

/-- Settles O29: the frame and the events with STBY present, `Err(CAP_MISSING)` without it, and the CMD words of
SET_MODE, one for each mode. -/
theorem setModeLatchesAndStoresTheMode : Obligations.SetModeLatchesAndStoresTheMode := by
  refine ⟨fun m s hp => ?_, fun m s hp => ?_, opcodeSpells_of_build (op := .setMode) fun w a0 a1 i => ⟨?_, ?_⟩⟩
  · obtain ⟨t, ht⟩ := exec_next (.setMode m) s
    obtain ⟨low, rest, htrace, hevents⟩ := setMode_events hp ht
    refine ⟨t, low, rest, ht, ?_, hevents⟩
    rw [← htrace, ← latchedPins_of_stby hp]
    exact setMode_frame hp ht
  · have hstby : ¬s.hasPin .stby = true := ne_true_of_eq_false hp
    exact congrArg Host.Outcome.next (if_neg hstby)
  · rintro ⟨m, rfl, rfl⟩
    exact ⟨m, false, rfl, (cmdWord_setMode m).symm, nofun⟩
  · rintro ⟨m, b, rfl, rfl, -⟩
    exact ⟨m, cmdWord_setMode m, rfl⟩

end Sys2Proof.Machine

/-! PROOF. The Power & Fault State Machine: STANDBY (R196, R198), RESET (R197), ENABLE (R190), IS_ENABLED (R193),
IS_FAULT (R194) and CLEAR_FAULT (R195). -/

namespace Sys2Proof.Machine

/-! ## The words of a command with one boolean operand, and of one with none (R90, R93) -/

/-- An opcode whose one operand is B has a CMD word for each of its two commands. -/
theorem opcodeSpells_of_bool {op : Opcode} {c : Bool → Instr} {word : Bool → Word}
    (hbuild : ∀ mode b a0 a1, op.build mode b a0 a1 = c b) (hcount : op.usesCount = false)
    (hword : ∀ b, (c b).cmdWord = word b) : OpcodeSpells op.bits fun w _ _ i => ∃ b, w = word b ∧ i = c b := by
  refine opcodeSpells_of_build fun w a0 a1 i => ⟨?_, ?_⟩
  · rintro ⟨b, rfl, rfl⟩
    exact ⟨.full, b, (hbuild ..).symm, (hword b).symm, fun h => absurd (hcount.symm.trans h) nofun⟩
  · rintro ⟨mode, b, rfl, rfl, -⟩
    rw [hbuild]
    exact ⟨b, hword b, rfl⟩

/-- An opcode without operands has one CMD word. -/
theorem opcodeSpells_of_fixed {op : Opcode} {c : Instr} {word : Word}
    (hbuild : ∀ mode b a0 a1, op.build mode b a0 a1 = c) (hcount : op.usesCount = false) (hword : c.cmdWord = word) :
    OpcodeSpells op.bits fun w _ _ i => w = word ∧ i = c := by
  refine opcodeSpells_of_build fun w a0 a1 i => ⟨?_, ?_⟩
  · rintro ⟨rfl, rfl⟩
    exact ⟨.full, false, (hbuild ..).symm, hword.symm, fun h => absurd (hcount.symm.trans h) nofun⟩
  · rintro ⟨mode, b, rfl, rfl, -⟩
    rw [hbuild]
    exact ⟨hword, rfl⟩

/-! ## The frame of STANDBY and RESET (R50) -/

section
variable {i : Instr} {s t : State} (hi : (∃ b, i = .standby b) ∨ i = .reset) (he : exec i s = .next t)
include hi he

/-- STANDBY and RESET end with RESULT 0 and no error, whether or not STBY is present (R196, R197, D21). -/
theorem standby_reset_status : t.result = 0#32 ∧ t.err = .none := by
  obtain ⟨b, rfl⟩ | rfl := hi <;> cases he <;> exact ⟨rfl, rfl⟩

/-- STANDBY and RESET change no device-state field but the pins (R196, R197). -/
theorem standby_reset_device :
    t.pulseInterval = s.pulseInterval ∧ (t.position = s.position ∧ t.lastPulseTime = s.lastPulseTime)
      ∧ t.microstepMode = s.microstepMode ∧ t.enabled = s.enabled := by
  obtain ⟨b, rfl⟩ | rfl := hi <;>
    exact ⟨exec_pulseInterval he nofun, exec_position he nofun, exec_microstepMode he nofun, exec_enabled he nofun nofun⟩

/-- What no command writes, the rows of R50's table that are not theirs, and what STANDBY and RESET write. -/
theorem standby_reset_frame :
    t = { s with
        pins := commandPins i s
        trace := t.trace
        clock := t.clock
        lull := t.lull
        draws := t.draws
        result := 0#32
        err := .none
        phase := .idle } := by
  obtain ⟨hk, hidle⟩ := exec_kept he
  obtain ⟨hresult, herr⟩ := standby_reset_status hi he
  obtain ⟨hinterval, ⟨hposition, hlast⟩, hmode, henabled⟩ := standby_reset_device hi he
  rw [← exec_pins he, ← hresult, ← herr, ← hidle, ← hinterval, ← hposition, ← hlast, ← hmode, ← henabled, ← hk.params,
    ← hk.arg0, ← hk.arg1, ← hk.faults, ← hk.mark, ← hk.host, ← hk.data, ← hk.env, ← hk.clockStop, ← hk.observed]

end

/-! ## STANDBY (R196, R198) -/

/-- The standby body with STBY absent is nothing (R196). -/
theorem standbyBody_absent {s : State} (hp : s.params.present.stby = false) (b : Bool) : standbyBody b s = s :=
  have hstby : ¬s.hasPin .stby = true := ne_true_of_eq_false hp
  if_neg hstby

/-- The latch sequence again finds every line where it left it (R198). -/
theorem latchedPins_latchedPins (present : Present) (code : BitVec 4) (p : Pins) :
    latchedPins present code (latchedPins present code p) = latchedPins present code p := by
  simp +contextual [latchedPins]

section
variable {s : State} (hp : s.params.present.stby = true)
include hp

/-- The events of a latch sequence, which are those of SET_MODE: STBY low and, SETTLE_US later at the earliest, the rest
(R177). -/
theorem latchSequence_events (m : MicrostepMode) :
    ∃ (low : PinEvent) (rest : List PinEvent),
      (latchSequence m s).trace = s.trace ++ low :: rest
        ∧ (low :: rest).map PinEvent.shape = latchShape s.params (s.params.latch.code m)
        ∧ s.clock ≤ low.time
        ∧ ∀ e ∈ rest, low.time + 1000 ≤ e.time ∧ e.time ≤ (latchSequence m s).clock := by
  obtain ⟨low, rest, htrace, hshape, hclock, -, hsettle⟩ := setMode_events hp (exec_setMode_of_stby hp m)
  exact ⟨low, rest, htrace, hshape, hclock, hsettle⟩

/-- STANDBY 1 with STBY present drives STBY low (R196). -/
theorem exec_standby_enter : exec (.standby true) s = .next (complete 0#32 (pinWrite .stby false s)) :=
  congrArg (fun u => Host.Outcome.next (complete 0#32 u)) (if_pos hp)

/-- STANDBY 0 with STBY present runs the latch sequence of the stored mode (R196). -/
theorem exec_standby_leave :
    exec (.standby false) s = .next (complete 0#32 (latchSequence s.microstepMode s)) :=
  congrArg (fun u => Host.Outcome.next (complete 0#32 u)) (if_pos hp)

/-- The write that drives STBY low, as one state: a sample, the level and one event (R14). -/
theorem pinWrite_stby :
    pinWrite .stby false s
      = { sampleClock s with
          pins := { s.pins with stby := false }
          trace := s.trace ++ [⟨nextClock s, .stby, .drive false⟩] } :=
  if_pos hp

end

/-- Settles O34: STBY low is one event, the way back is the latch sequence of the stored mode, and without STBY the
standby body is nothing. -/
theorem standbyEntersAndLeaves : Obligations.StandbyEntersAndLeaves := by
  refine ⟨fun s hp => ?_, fun s hp => ?_, fun b s hp => ?_,
    opcodeSpells_of_bool (op := .standby) (fun _ _ _ _ => rfl) rfl cmdWord_standby⟩
  · rw [exec_standby_enter hp, pinWrite_stby hp]
    exact ⟨nextClock s, _, _, clock_le_nextClock s, rfl⟩
  · obtain ⟨low, rest, htrace, hevents⟩ := latchSequence_events hp s.microstepMode
    have hframe := standby_reset_frame (.inl ⟨false, rfl⟩) (exec_standby_leave hp)
    rw [commandPins, if_pos hp, complete_trace, htrace] at hframe
    exact ⟨_, low, rest, exec_standby_leave hp, hframe, hevents⟩
  · rw [exec, execStandby, standbyBody_absent hp]; rfl

/-- The pins that STANDBY 0 leaves are those it leaves again (R198). -/
theorem commandPins_standby_false_again {s t : State} (he : exec (.standby false) s = .next t) :
    commandPins (.standby false) t = t.pins := by
  obtain ⟨hk, -⟩ := exec_kept he
  rw [exec_pins he, commandPins, commandPins, exec_pins he, commandPins, hk.params, exec_microstepMode he nofun]
  split
  · exact latchedPins_latchedPins ..
  · rfl

/-- STANDBY 0 emits the latch sequence of the stored mode, or nothing where STBY is absent (R196). -/
theorem standby_false_emits {s t : State} (he : exec (.standby false) s = .next t) :
    Emits s t
      (if s.params.present.stby then latchShape s.params (s.params.latch.code s.microstepMode) else []) := by
  cases he
  exact (standbyBody_emits false s).congr_right rfl rfl

/-- Settles O36: the first STANDBY 0 has already left the pins and the status that the second writes, and the stored mode
and the parameters, which give the events, are those of the first. -/
theorem standbyZeroIsIdempotent : Obligations.StandbyZeroIsIdempotent := by
  intro s
  obtain ⟨t, ht⟩ := exec_next (.standby false) s
  obtain ⟨u, hu⟩ := exec_next (.standby false) t
  refine ⟨t, u, ht, hu, ?_, ?_⟩
  · obtain ⟨hresult, herr⟩ := standby_reset_status (.inl ⟨false, rfl⟩) ht
    have hframe := standby_reset_frame (.inl ⟨false, rfl⟩) hu
    rwa [commandPins_standby_false_again ht, ← hresult, ← herr, ← (exec_kept ht).2] at hframe
  · rintro _ rfl
    have hagain := standby_false_emits hu
    rw [(exec_kept ht).1.params, exec_microstepMode ht nofun] at hagain
    exact ⟨standby_false_emits ht, hagain⟩

/-! ## RESET (R197) -/

/-- The state in which RESET's second standby body begins: STBY driven low, then the wait (R197). -/
def resetSettled (s : State) : State := delayUs Config.settleUs (pinWrite .stby false s)

@[simp] theorem resetSettled_params (s : State) : (resetSettled s).params = s.params := by simp [resetSettled]

/-- RESET with STBY present: STBY low, the wait, and the latch sequence of the stored mode (R197). -/
theorem exec_reset_present {s : State} (hp : s.params.present.stby = true) :
    exec .reset s = .next (complete 0#32 (latchSequence s.microstepMode (resetSettled s))) := by
  have hlow : standbyBody true s = pinWrite .stby false s := if_pos hp
  have hstby : (resetSettled s).hasPin .stby = true := by rw [State.hasPin, resetSettled_params]; exact hp
  have hmode : (resetSettled s).microstepMode = s.microstepMode := by simp [resetSettled]
  have hback : standbyBody false (resetSettled s) = latchSequence (resetSettled s).microstepMode (resetSettled s) :=
    if_pos hstby
  rw [exec, execReset, hlow, ← resetSettled, hback, hmode]

/-- RESET with STBY absent: the wait alone (R197, D21). -/
theorem exec_reset_absent {s : State} (hp : s.params.present.stby = false) :
    exec .reset s = .next (complete 0#32 (delayUs Config.settleUs s)) := by
  rw [exec, execReset, standbyBody_absent hp, standbyBody_absent (s := delayUs _ s) hp]

/-- The events of RESET: STBY low, SETTLE_US later at the earliest STBY low again, and so on to the end of the latch
sequence (R197). -/
theorem reset_events {s t : State} (hp : s.params.present.stby = true) (he : exec .reset s = .next t) :
    ∃ (low1 low2 : PinEvent) (rest : List PinEvent),
      t.trace = s.trace ++ low1 :: low2 :: rest
        ∧ low1.shape = (.stby, .drive false)
        ∧ (low2 :: rest).map PinEvent.shape = latchShape s.params (s.params.latch.code s.microstepMode)
        ∧ s.clock ≤ low1.time ∧ low1.time + 1000 ≤ low2.time
        ∧ ∀ e ∈ rest, low2.time + 1000 ≤ e.time ∧ e.time ≤ t.clock := by
  rw [exec_reset_present hp] at he; cases he
  obtain ⟨htrace, -, hclock⟩ := pinWrite_present (o := .stby) hp false
  have hsettle := delayUs_clock_le Config.settleUs (pinWrite .stby false s)
  obtain ⟨low2, rest, htrace2, hshape, hclock2, hrest⟩ :=
    latchSequence_events (s := resetSettled s) (resetSettled_params s ▸ hp) s.microstepMode
  rw [resetSettled_params] at hshape
  refine ⟨⟨(pinWrite .stby false s).clock, .stby, .drive false⟩, low2, rest, ?_, rfl, hshape, hclock,
    hsettle.trans hclock2, hrest⟩
  rw [complete_trace, htrace2, resetSettled, delayUs_trace, htrace, List.append_assoc]
  rfl

/-- Settles O35: the frame of RESET, STBY low before and in the latch sequence, and only the wait without STBY. -/
theorem resetCommandRelatchesTheStoredMode : Obligations.ResetCommandRelatchesTheStoredMode := by
  refine ⟨fun s hp => ?_, fun s hp => ?_, opcodeSpells_of_fixed (op := .reset) (fun _ _ _ _ => rfl) rfl cmdWord_reset⟩
  · obtain ⟨t, ht⟩ := exec_next .reset s
    obtain ⟨low1, low2, rest, htrace, hevents⟩ := reset_events hp ht
    have hframe := standby_reset_frame (.inr rfl) ht
    rw [commandPins, if_pos hp, htrace] at hframe
    exact ⟨t, low1, low2, rest, ht, hframe, hevents⟩
  · exact ⟨_, exec_reset_absent hp, rfl, delayUs_clock_le Config.settleUs s⟩

/-! ## ENABLE (R190) and CLEAR_FAULT (R195) -/

theorem not_hasPin_en {s : State} (hp : s.params.present.en = false) : ¬s.hasPin .en = true := ne_true_of_eq_false hp

/-- ENABLE 1 and ENABLE 0 with EN present are one event, at the sample taken for it (R190). -/
theorem exec_enable_present {s : State} (hp : s.params.present.en = true) (b : Bool) :
    exec (.enable b) s
      = .next { sampleClock s with
          enabled := b
          pins := { s.pins with en := if b then .inPullup else .outLow }
          trace := s.trace ++ [⟨nextClock s, .en, if b then .cfgInPullup else .cfgOutLow⟩]
          result := 0#32
          err := .none
          phase := .idle } := by
  have hen : s.hasPin .en = true := hp
  rw [exec, execEnable, if_pos hen]
  cases b with
  | true => rw [pinCfgInPullup_present hen]; rfl
  | false => rw [pinCfgOutLow_present hen]; rfl

/-- With EN absent ENABLE writes the status alone (R190). -/
theorem exec_enable_absent {s : State} (hp : s.params.present.en = false) (b : Bool) :
    exec (.enable b) s = .next (complete 0#32 s) := by
  rw [exec, execEnable, if_neg (not_hasPin_en hp)]

/-- Settles O30: the one event with EN present, the status alone without it, and the two CMD words of ENABLE. -/
theorem enableSetsTheFlagAndTheEnPin : Obligations.EnableSetsTheFlagAndTheEnPin :=
  ⟨fun b s hp => ⟨nextClock s, _, _, clock_le_nextClock s, exec_enable_present hp b⟩,
    fun b _ hp => exec_enable_absent hp b,
    opcodeSpells_of_bool (op := .enable) (fun _ _ _ _ => rfl) rfl cmdWord_enable⟩

/-- CLEAR_FAULT with EN present: EN low, the wait, EN released, and `enabled` set (R195). -/
theorem exec_clearFault_present {s : State} (hp : s.params.present.en = true) :
    exec .clearFault s
      = .next (complete 0#32
          { pinCfgInPullup (delayUs s.params.clearFaultLowUs (pinCfgOutLow s)) with enabled := true }) :=
  congrArg (fun u => Host.Outcome.next (complete 0#32 u)) (if_pos hp)

/-- With EN absent CLEAR_FAULT writes the status alone, with no delay (R195). -/
theorem exec_clearFault_absent {s : State} (hp : s.params.present.en = false) :
    exec .clearFault s = .next (complete 0#32 s) := by
  rw [exec, execClearFault, if_neg (not_hasPin_en hp)]

/-- Settles O33: the two events with EN present, the wait between them, the status alone without EN, and the one CMD word
of CLEAR_FAULT. -/
theorem clearFaultPulsesEnLowAndReenables : Obligations.ClearFaultPulsesEnLowAndReenables := by
  refine ⟨fun s hp => ?_, fun s hp => exec_clearFault_absent hp,
    opcodeSpells_of_fixed (op := .clearFault) (fun _ _ _ _ => rfl) rfl cmdWord_clearFault⟩
  have hlow := pinCfgOutLow_present (s := s) hp
  have hhigh := pinCfgInPullup_present (s := delayUs s.params.clearFaultLowUs (pinCfgOutLow s))
    (by rw [delayUs_hasPin, pinCfgOutLow_hasPin]; exact hp)
  have hclock : (pinCfgOutLow s).clock = nextClock s := by rw [hlow]; rfl
  have hwait := (delayUs_clock_le s.params.clearFaultLowUs (pinCfgOutLow s)).trans (clock_le_nextClock _)
  rw [hclock, hlow] at hwait
  rw [exec_clearFault_present hp, hhigh, hlow, delayUs_trace, List.append_assoc]
  exact ⟨nextClock s, _, _, _, clock_le_nextClock s, hwait, rfl⟩

/-! ## IS_ENABLED (R193) and IS_FAULT (R194) -/

/-- RESULT of IS_ENABLED is the Power & Fault state, and it writes nothing else but the status (R193, R46). -/
theorem exec_isEnabled (s : State) :
    exec .isEnabled s
      = .next (complete (if s.params.present.en = false ∨ s.enabled = true then 1#32 else 0#32) s) := by
  have hword : boolWord (!s.params.present.en || s.enabled)
      = if s.params.present.en = false ∨ s.enabled = true then 1#32 else 0#32 := by simp [boolWord]
  rw [← hword]
  rfl

/-- Settles O31: what IS_ENABLED answers, and its one CMD word. -/
theorem isEnabledReportsTheLastCommandedState : Obligations.IsEnabledReportsTheLastCommandedState :=
  ⟨exec_isEnabled, opcodeSpells_of_fixed (op := .isEnabled) (fun _ _ _ _ => rfl) rfl cmdWord_isEnabled⟩

/-- With EN present IS_FAULT answers 1 where the sample of EN is low, and takes one draw for it (R194). -/
theorem exec_isFault_present {s : State} (hp : s.params.present.en = true) :
    exec .isFault s
      = .next (complete (if enSample s = false then 1#32 else 0#32) { s with draws := s.draws + 1 }) := by
  have hword : boolWord (!enSample s) = if enSample s = false then 1#32 else 0#32 := by simp [boolWord]
  rw [← hword]
  exact congrArg Host.Outcome.next (if_pos hp)

/-- With EN absent IS_FAULT answers 0 and samples nothing (R194). -/
theorem exec_isFault_absent {s : State} (hp : s.params.present.en = false) :
    exec .isFault s = .next (complete 0#32 s) := by
  rw [exec, execIsFault, if_neg (not_hasPin_en hp)]

/-- The sample of EN in each of its two configurations (R194, D20). -/
theorem enSample_eq (s : State) :
    (s.pins.en = .inPullup → enSample s = Config.enLineLevel s.env s.draws)
      ∧ (s.pins.en = .outLow → enSample s = Config.enReadback s.env s.draws) := by
  constructor <;> intro hen <;> rw [enSample, hen]

/-- Settles O32: the sample is `enSample`, taken only where EN is present, and the one CMD word of IS_FAULT. -/
theorem isFaultSamplesTheEnLine : Obligations.IsFaultSamplesTheEnLine := by
  refine ⟨fun s hp => exec_isFault_absent hp, fun s hp => ?_,
    opcodeSpells_of_fixed (op := .isFault) (fun _ _ _ _ => rfl) rfl cmdWord_isFault⟩
  obtain ⟨hinput, houtput⟩ := enSample_eq s
  exact ⟨enSample s, hinput, houtput, exec_isFault_present hp⟩

/-! ## The commanded state is reported back (R46) -/

/-- With EN present ENABLE stores its operand in `enabled` (R190). -/
theorem enable_enabled {b : Bool} {s t : State} (hp : s.params.present.en = true) (he : exec (.enable b) s = .next t) :
    t.enabled = b := by
  rw [exec_enable_present hp] at he; cases he
  rfl

/-- With EN present CLEAR_FAULT sets `enabled` (R195). -/
theorem clearFault_enabled {s t : State} (hp : s.params.present.en = true) (he : exec .clearFault s = .next t) :
    t.enabled = true := by
  rw [exec_clearFault_present hp] at he; cases he
  rfl

/-- Settles O37: IS_ENABLED reads the presence of EN, which no command changes, and the flag just written. -/
theorem enableStateIsReportedBack : Obligations.EnableStateIsReportedBack := by
  refine ⟨fun b s => ?_, fun s => ?_, fun i s t hp ht => ?_⟩
  · obtain ⟨t, ht⟩ := exec_next (.enable b) s
    refine ⟨t, _, ht, exec_isEnabled t, ?_⟩
    rw [complete_result, (exec_kept ht).1.params]
    cases hp : s.params.present.en with
    | false => simp
    | true => cases b <;> simp [enable_enabled hp ht]
  · obtain ⟨t, ht⟩ := exec_next .clearFault s
    refine ⟨t, _, ht, exec_isEnabled t, ?_⟩
    rw [complete_result, (exec_kept ht).1.params]
    cases hp : s.params.present.en with
    | false => simp
    | true => simp [clearFault_enabled hp ht]
  · rw [← (exec_kept ht).1.params] at hp
    exact ⟨_, exec_isFault_absent hp, rfl⟩

end Sys2Proof.Machine

/-! PROOF. The end of a run: what no step clears (R227, R228), what a final run has read (R244), and that every program
reaches its end (R237). -/

namespace Sys2Proof.Machine

/-- Settles O10: the block's part of a step and each turn of the host answer a next state. -/
theorem everyStepAnswersANextState : Obligations.EveryStepAnswersANextState := step_next

/-! ## The bookkeeping of a step (R47, R244) -/

/-- Only a host access changes the fault set or the refusal mark, and only it and a poll while IDLE the observation. -/
theorem step_bookkeeping {s t : State} (h : step s = .next t) :
    (t.faults = s.faults ∧ t.refusalMark = s.refusalMark ∧ t.observed = s.observed)
      ∨ (∃ rest, s.host = .poll :: rest ∧ s.phase = .idle
        ∧ t = { s with host := rest, readData := s.status, observed := true })
      ∨ ∃ a rest, s.host = .access a :: rest ∧ t = hostAccess a { s with host := rest } := by
  obtain hb | ha | ⟨rest, -, rfl⟩ | ⟨rest, hh, hb, ht⟩ := step_cases h
  · have hk := blockStep_kept hb
    exact .inl ⟨hk.faults, hk.mark, hk.observed⟩
  · exact .inr (.inr ha)
  · have hk := blockMove_kept { s with host := rest }
    exact .inl ⟨hk.faults, hk.mark, hk.observed⟩
  · exact .inr (.inl ⟨rest, hh, by simpa [State.busy] using hb, ht⟩)

/-- A host access keeps every fault, and adds one only as a write to CMD, ARG0 or ARG1 while BUSY (R77, R227). -/
theorem hostAccess_faults (a : Access) (s : State) :
    s.faults ⊆ (hostAccess a s).faults
      ∧ ((hostAccess a s).faults ≠ s.faults → s.busy = true ∧ ∃ o v, o ∈ [0x00, 0x04, 0x08] ∧ a = .write o 4 v) := by
  obtain he | ⟨v, he⟩ | ⟨-, -, he⟩ | ⟨v, he⟩ | ⟨hb, hw, he⟩ | ⟨-, v, ⟨-, he⟩ | ⟨-, he⟩ | ⟨-, he⟩⟩ :=
    hostAccess_cases a s <;> rw [he]
  case inr.inr.inr.inr.inl =>
    refine ⟨?_, fun _ => ⟨hb, hw⟩⟩
    simp only [raiseFault]
    split <;> simp
  all_goals exact ⟨List.Subset.refl _, fun h => absurd rfl h⟩

/-- A host access keeps a set refusal mark (R73, R228). -/
theorem hostAccess_mark (a : Access) {s : State} (h : s.refusalMark = true) : (hostAccess a s).refusalMark = true := by
  obtain he | ⟨v, he⟩ | ⟨-, -, he⟩ | ⟨v, he⟩ | ⟨-, -, he⟩ | ⟨-, v, ⟨-, he⟩ | ⟨-, he⟩ | ⟨-, he⟩⟩ :=
    hostAccess_cases a s <;> rw [he] <;> exact h

/-- A host access leaves the observation, makes it of a STATUS with BUSY = 0, or clears it as a CMD write while IDLE
(R244). -/
theorem hostAccess_observed (a : Access) (s : State) :
    (hostAccess a s).observed = s.observed
      ∨ (s.phase = .idle ∧ a = .read 0x10 4 ∧ (hostAccess a s).observed = true
        ∧ (hostAccess a s).readData = s.status)
      ∨ (s.phase = .idle ∧ (∃ v, a = .write 0x00 4 v) ∧ (hostAccess a s).observed = false) := by
  obtain he | ⟨v, he⟩ | ⟨hb, ha, he⟩ | ⟨v, he⟩ | ⟨-, -, he⟩ | ⟨hp, v, ⟨ha, he⟩ | ⟨-, he⟩ | ⟨-, he⟩⟩ :=
    hostAccess_cases a s <;> rw [he]
  case inr.inr.inl => exact .inr (.inl ⟨by simpa [State.busy] using hb, ha, rfl, rfl⟩)
  case inr.inr.inr.inr.inr.inl => exact .inr (.inr ⟨hp, ⟨v, ha⟩, rfl⟩)
  all_goals exact .inl rfl

/-! ## Runs of steps -/

/-- What every step keeps, a run keeps. -/
theorem run_keeps {P : State → Prop} (hstep : ∀ {s t}, step s = .next t → P s → P t) {k : Nat} {s t : State}
    (h : Host.Core.run core k s = .next t) (hs : P s) : P t := by
  induction k generalizing s with
  | zero => cases h; exact hs
  | succ k ih =>
    obtain ⟨u, hu⟩ := step_next s
    exact ih ((run_succ hu k).symm.trans h) (hstep hu hs)

/-- A run, and then more steps from the state it reaches. -/
theorem run_add {k : Nat} {s t : State} (h : Host.Core.run core k s = .next t) (m : Nat) :
    Host.Core.run core (k + m) s = Host.Core.run core m t := by
  induction k generalizing s with
  | zero => cases h; rw [Nat.zero_add]
  | succ k ih =>
    obtain ⟨u, hu⟩ := step_next s
    rw [Nat.add_right_comm, run_succ hu, ih ((run_succ hu k).symm.trans h)]

/-! ## What no step clears (R227, R228) -/

section
variable {s t : State} (h : step s = .next t)
include h

/-- A step keeps every fault and a set refusal mark. -/
theorem step_keeps_marks : s.faults ⊆ t.faults ∧ (s.refusalMark = true → t.refusalMark = true) := by
  obtain ⟨hf, hm, -⟩ | ⟨rest, -, -, rfl⟩ | ⟨a, rest, -, rfl⟩ := step_bookkeeping h
  · exact ⟨hf ▸ List.Subset.refl _, fun h => hm.trans h⟩
  · exact ⟨List.Subset.refl _, id⟩
  · exact ⟨(hostAccess_faults a { s with host := rest }).1, hostAccess_mark a (s := { s with host := rest })⟩

/-- A step that adds a fault is a host write to CMD, ARG0 or ARG1 while BUSY (R77). -/
theorem step_adds_fault (hne : t.faults ≠ s.faults) :
    s.busy = true ∧ ∃ (o : Nat) (v : Word) (rest : List HostTurn), o ∈ [0x00, 0x04, 0x08] ∧
      s.host = .access (.write o 4 v) :: rest := by
  obtain ⟨hf, -, -⟩ | ⟨rest, -, -, rfl⟩ | ⟨a, rest, hh, rfl⟩ := step_bookkeeping h
  · exact absurd hf hne
  · exact absurd rfl hne
  · obtain ⟨hb, o, v, ho, rfl⟩ := (hostAccess_faults a { s with host := rest }).2 hne
    exact ⟨hb, o, v, rest, ho, hh⟩

/-- A step that sets the refusal mark is a host access (R73). -/
theorem step_sets_mark (hne : t.refusalMark ≠ s.refusalMark) :
    ∃ (a : Access) (rest : List HostTurn), s.host = .access a :: rest := by
  obtain ⟨-, hm, -⟩ | ⟨rest, -, -, rfl⟩ | ⟨a, rest, hh, -⟩ := step_bookkeeping h
  · exact absurd hm hne
  · exact absurd rfl hne
  · exact ⟨a, rest, hh⟩

end

/-- The run has a fault or a refusal, of which nothing is claimed (R227, R228). -/
def State.Spoiled (s : State) : Prop := s.faults ≠ [] ∨ s.refusalMark = true

theorem State.Spoiled.step {s t : State} (h : step s = .next t) (hs : s.Spoiled) : t.Spoiled := by
  obtain ⟨hf, hm⟩ := step_keeps_marks h
  exact hs.imp (fun hne ht => hne (List.eq_nil_of_subset_nil (ht ▸ hf))) hm

/-- `State.final` is R244's conditions, one by one. -/
theorem final_iff (s : State) :
    s.final = true ↔ s.host = [] ∧ s.observed = true ∧ s.phase = .idle ∧ s.faults = [] ∧ s.refusalMark = false := by
  simp [State.final, State.busy, and_assoc]

theorem State.Spoiled.not_final {s : State} (h : s.Spoiled) : s.final = false := by
  rw [← Bool.not_eq_true, final_iff]
  rintro ⟨-, -, -, hf, hm⟩
  exact h.elim (absurd hf) (by simp [hm])

/-- Settles O14: only accesses touch the fault set and the mark, and `Spoiled` is kept along a run. -/
theorem faultsAndRefusalsAreNeverCleared : Obligations.FaultsAndRefusalsAreNeverCleared := by
  refine ⟨fun s t h => ?_, fun s t k hs h => (run_keeps State.Spoiled.step h hs).not_final⟩
  obtain ⟨hf, hm⟩ := step_keeps_marks h
  exact ⟨fun f => @hf f, hm, step_adds_fault h, step_sets_mark h⟩

/-! ## What the end of a run has read (R244) -/

section
variable {s t : State} (h : step s = .next t)
include h

/-- Only a CMD write while IDLE makes a completion yet to be observed. -/
theorem step_clears_observed (hs : s.observed = true) (ht : t.observed = false) :
    s.phase = .idle ∧ ∃ w rest, s.host = .access (.write 0x00 4 w) :: rest := by
  obtain ⟨-, -, ho⟩ | ⟨rest, -, -, rfl⟩ | ⟨a, rest, hh, rfl⟩ := step_bookkeeping h
  · cases hs.symm.trans (ho.symm.trans ht)
  · cases ht
  · obtain ho | ⟨-, -, ho, -⟩ | ⟨hp, ⟨w, rfl⟩, -⟩ := hostAccess_observed a { s with host := rest }
    · cases hs.symm.trans (ho.symm.trans ht)
    · cases ht.symm.trans ho
    · exact ⟨hp, w, rest, hh⟩

/-- Only a read of STATUS with BUSY = 0, by a poll or by an access, observes a completion. -/
theorem step_sets_observed (hs : s.observed = false) (ht : t.observed = true) :
    s.phase = .idle ∧ t.readData = s.status
      ∧ ∃ rest, s.host = .poll :: rest ∨ s.host = .access (.read 0x10 4) :: rest := by
  obtain ⟨-, -, ho⟩ | ⟨rest, hh, hp, rfl⟩ | ⟨a, rest, hh, rfl⟩ := step_bookkeeping h
  · cases hs.symm.trans (ho.symm.trans ht)
  · exact ⟨hp, rfl, rest, .inl hh⟩
  · obtain ho | ⟨hp, rfl, -, hd⟩ | ⟨-, -, ho⟩ := hostAccess_observed a { s with host := rest }
    · cases hs.symm.trans (ho.symm.trans ht)
    · exact ⟨hp, hd, rest, .inr hh⟩
    · cases ht.symm.trans ho

end

/-- A read of STATUS while IDLE observes the completion of the last command. -/
theorem step_read_status {s : State} {rest : List HostTurn} (hp : s.phase = .idle)
    (hh : s.host = .access (.read 0x10 4) :: rest) :
    step s = .next { s with host := rest, readData := s.status, observed := true } := by
  have hb : ({ s with host := rest } : State).busy = false := by simp [State.busy, hp]
  rw [step_access hh]
  exact congrArg _ (hostRead_status_idle hb)

/-- Settles O15: `final` taken apart, and the one access that clears the observation and the two reads that make it. -/
theorem runEndsOnlyOnceItsCompletionIsRead : Obligations.RunEndsOnlyOnceItsCompletionIsRead := by
  refine ⟨final_iff, fun s t => step_clears_observed, fun s t => step_sets_observed,
    fun s w rest hp => ⟨fun hh => ?_, ?_⟩⟩
  · exact ⟨_, step_write_idle (r := .cmd) hp rfl hh, rfl, by simp [State.final, writeReg]⟩
  · rintro (hh | hh)
    · exact ⟨_, step_poll_idle hh hp, rfl, rfl⟩
    · exact ⟨_, step_read_status hp hh, rfl, rfl⟩

/-! ## Every program runs to its end (R102, R237) -/

/-- A state between two commands of a program, with nothing to observe and no fault or mark, whose clock goes on. -/
structure State.Ready (s : State) : Prop where
  idle : s.phase = .idle
  clock : s.clockStop = none
  observed : s.observed = true
  faults : s.faults = []
  mark : s.refusalMark = false

theorem State.Ready.final {s : State} (h : s.Ready) (hh : s.host = []) : s.final = true :=
  (final_iff s).2 ⟨hh, h.observed, h.idle, h.faults, h.mark⟩

/-- The turns of R102 for one command lead to its end, read as not busy, with the host at the turns that follow. -/
theorem run_hostExpansion {s : State} {i : Instr} {rest : List HostTurn} (h : s.Ready) (hwf : i.wellFormed = true)
    (hh : s.host = hostExpansion i ++ rest) :
    ∃ k t, Host.Core.run core k s = .next t ∧ t.Ready ∧ t.host = rest ∧ t.params = s.params := by
  obtain ⟨t, ht⟩ := exec_next i _
  obtain ⟨hk, hidle⟩ := exec_kept ht
  refine ⟨_, _, hostExpansionRunsTheCommand s t i rest hwf h.idle h.clock hh ht, ?_, rfl, hk.params⟩
  exact ⟨hidle, hk.clockStop.trans h.clock, rfl, hk.faults.trans h.faults, hk.mark.trans h.mark⟩

/-- By induction on the commands that are left. -/
theorem run_program {commands : List Instr} {s : State} (h : s.Ready) (hwf : ∀ i ∈ commands, i.wellFormed = true)
    (hh : s.host = commands.flatMap hostExpansion) :
    ∃ k t, Host.Core.run core k s = .next t ∧ t.final = true ∧ t.params = s.params := by
  induction commands generalizing s with
  | nil => exact ⟨0, s, rfl, h.final hh, rfl⟩
  | cons i commands ih =>
    obtain ⟨hi, hrest⟩ := List.forall_mem_cons.1 hwf
    obtain ⟨k, t, hrun, ht, hhost, hp⟩ := run_hostExpansion h hi (by simpa using hh)
    obtain ⟨m, u, hrun', hfinal, hp'⟩ := ih ht hrest hhost
    exact ⟨k + m, u, (run_add hrun m).trans hrun', hfinal, hp'.trans hp⟩

/-- Settles O16: each command's turns run it to its end, so the list does by induction. -/
theorem everyProgramRunsToItsEnd : Obligations.EveryProgramRunsToItsEnd :=
  fun _ _ hwf hp hc ho hf hm hh => run_program ⟨hp, hc, ho, hf, hm⟩ hwf hh

end Sys2Proof.Machine

/-! PROOF. The errors of a command: what causes each (R220, R221) and that it changes nothing else (R222). -/

namespace Sys2Proof.Machine

/-- A count of −2^31 ends in `Err(ILLEGAL)` (R92, R98). -/
theorem exec_illegal {i : Instr} (h : i.wellFormed = false) (s : State) : exec i s = .next (raiseErr .illegal s) := by
  cases i with
  | step count | stepFixed count interval =>
    have hc : ¬count.isCount = true := ne_true_of_eq_false h
    exact congrArg _ (if_neg hc)
  | setSpeed | msps | setMode | enable | isEnabled | isFault | clearFault | standby | reset => cases h

/-- SET_MODE without STBY ends in `Err(CAP_MISSING)` (R178, R221). -/
theorem exec_capMissing {s : State} (h : s.params.present.stby = false) (m : MicrostepMode) :
    exec (.setMode m) s = .next (raiseErr .capMissing s) := by
  have hp : ¬s.hasPin .stby = true := ne_true_of_eq_false h
  exact congrArg _ (if_neg hp)

/-- Every other command ends without an error (R91, R224). -/
theorem exec_err_none {i : Instr} {s t : State} (he : exec i s = .next t) (hwf : i.wellFormed = true)
    (hm : ∀ m, i = .setMode m → s.params.present.stby = true) : t.err = .none := by
  cases i <;> (injection he with he; subst he)
  case step count =>
    have hc : count.isCount = true := hwf
    rw [if_pos hc, complete_err]
  case stepFixed count interval =>
    have hc : count.isCount = true := hwf
    rw [if_pos hc, complete_err]
  case setMode m =>
    have hp : s.hasPin .stby = true := hm m rfl
    rw [if_pos hp, complete_err]
  case isFault => split <;> rfl
  all_goals rfl

/-- A command that ends in an error is one of the two, and its end is the raise. -/
theorem exec_cases_err {i : Instr} {s t : State} (he : exec i s = .next t) :
    (i.wellFormed = false ∧ t = raiseErr .illegal s)
      ∨ ((s.params.present.stby = false ∧ ∃ m, i = .setMode m) ∧ i.wellFormed = true ∧ t = raiseErr .capMissing s)
      ∨ (¬(s.params.present.stby = false ∧ ∃ m, i = .setMode m) ∧ i.wellFormed = true ∧ t.err = .none) := by
  cases hwf : i.wellFormed with
  | false =>
    rw [exec_illegal hwf] at he
    exact .inl ⟨rfl, (Host.Outcome.next.inj he).symm⟩
  | true =>
    by_cases hm : s.params.present.stby = false ∧ ∃ m, i = .setMode m
    · obtain ⟨hp, m, rfl⟩ := hm
      rw [exec_capMissing hp] at he
      exact .inr (.inl ⟨⟨hp, m, rfl⟩, rfl, (Host.Outcome.next.inj he).symm⟩)
    · refine .inr (.inr ⟨hm, rfl, exec_err_none he hwf fun m hi => ?_⟩)
      exact eq_true_of_ne_false fun hp => hm ⟨hp, m, hi⟩

/-- Settles O41: by the three ways in which a command ends. -/
theorem errCodesHaveTheirOneCause : Obligations.ErrCodesHaveTheirOneCause := by
  intro i s
  obtain ⟨t, ht⟩ := exec_next i s
  refine ⟨t, ht, ?_⟩
  obtain ⟨hwf, rfl⟩ | ⟨hm, hwf, rfl⟩ | ⟨hm, hwf, he⟩ := exec_cases_err ht
  · have hm : ¬(s.params.present.stby = false ∧ ∃ m, i = .setMode m) := by
      rintro ⟨-, m, rfl⟩
      cases hwf
    simp [hwf, hm]
  · simp [hwf, hm]
  · simp [hwf, hm, he]

/-- A primitive that is no raise leaves ERR. -/
theorem perform_err (c : Instr) (point : Nat) (l : Locals) (s : State) (p : Prim) :
    (perform c point l s p).err = s.err ∨ ∃ code, perform c point l s p = raiseErr code s := by
  cases p with
  | raise code => exact .inr ⟨code, rfl⟩
  | delay us =>
    simp only [perform]
    split <;> [skip; split] <;> exact .inl rfl
  | waitPace =>
    simp only [perform]
    split <;> exact .inl rfl
  | pinWrite | cfgOutLow | cfgInPullup | advance => exact .inl (by simp [perform])
  | stamp | whileMore | again | loadCode | setMode | setEnabled | setInterval | result | resultEnabled | resultFault =>
    exact .inl rfl

/-- A move of the block leaves ERR, makes it NONE at the end of a command, or is a raise. -/
theorem blockMove_err (s : State) :
    (blockMove s).err = s.err ∨ (blockMove s).err = .none ∨ ∃ code, blockMove s = raiseErr code s := by
  unfold blockMove
  split
  · exact .inl rfl
  · split
    · exact .inr (.inr ⟨.illegal, rfl⟩)
    · exact .inl rfl
  · split
    · exact .inr (.inl rfl)
    · exact (perform_err _ _ _ _ _).imp id .inr

/-- At a latched word that does not decode, a move is the raise of `Err(ILLEGAL)` (R92). -/
theorem blockMove_start_error {s : State} {w a0 a1 : Word} {e : Illegal} (hp : s.phase = .start w a0 a1)
    (hd : decode w a0 a1 = .error e) : blockMove s = raiseErr .illegal s := by
  simp [blockMove, hp, hd]

/-- Settles O40: an error is a raise, in `exec`, at decode and in a move, and a raise writes RESULT, ERR and phase. -/
theorem errorsArePrecise : Obligations.ErrorsArePrecise := by
  refine ⟨fun i s t he hne => ?_, fun s w a0 a1 e hp hd => ⟨?_, fun hw => ?_, fun rest hh => ?_⟩, fun s hs hne => ?_⟩
  · obtain ⟨-, rfl⟩ | ⟨-, -, rfl⟩ | ⟨-, -, hnone⟩ := exec_cases_err he
    · rfl
    · rfl
    · exact absurd hnone hne
  · exact blockMove_start_error hp hd
  · exact step_start_error hw hp hd
  · rw [step_yield hh]
    exact congrArg _ (blockMove_start_error (s := { s with host := rest }) hp hd)
  · obtain he | he | ⟨code, he⟩ := blockMove_err s
    · exact absurd (he.trans hs) hne
    · exact absurd he hne
    · rw [he]; rfl

end Sys2Proof.Machine

/-! PROOF. The end of a command: a poll fails while the clock is short of its wait's bound (R145), and every other move
brings the command nearer its end, so that it ends while the clock goes on (R237) and hangs where the clock stops short
(R229). -/

namespace Sys2Proof.Machine

/-! ## The waits (R15) -/

/-- The block waits for `b`: in STEP's poll, or in a delay that has begun. -/
theorem waitBound?_eq_some_iff {s : State} {c : Instr} {point : Nat} {l : Locals} (hph : s.phase = .run c point l)
    (b : Nat) :
    s.waitBound? = some b
      ↔ ((script s.params c)[point]? = some .waitPace ∧ s.lastPulseTime + s.pulseInterval.toNat = b)
        ∨ ∃ us t0, (script s.params c)[point]? = some (.delay us) ∧ l.since = some t0 ∧ t0 + us = b := by
  simp only [State.waitBound?, hph]
  split <;> simp_all

/-- A state that waits is under way. -/
theorem run_of_waitBound? {s : State} {b : Nat} (h : s.waitBound? = some b) :
    ∃ c point l, s.phase = .run c point l := by
  cases hph : s.phase with
  | run c point l => exact ⟨c, point, l, rfl⟩
  | idle | start => simp [State.waitBound?, hph] at h

theorem blockMove_run {s : State} {c : Instr} {point : Nat} {l : Locals} {p : Prim} (hph : s.phase = .run c point l)
    (hp : (script s.params c)[point]? = some p) : blockMove s = perform c point l s p := by
  simp [blockMove, hph, hp]

/-- A poll whose sample is short of the bound moves the clock alone (R145). -/
theorem blockMove_short {s : State} {b : Nat} (h : s.waitBound? = some b) (hc : nextClock s < b) :
    blockMove s = sampleClock s := by
  obtain ⟨c, point, l, hph⟩ := run_of_waitBound? h
  obtain ⟨hp, hb⟩ | ⟨us, t0, hp, hs, hb⟩ := (waitBound?_eq_some_iff hph b).1 h
  · rw [blockMove_run hph hp]
    exact if_neg (by rw [sampleClock_clock]; omega)
  · rw [blockMove_run hph hp, perform, hs]
    exact if_neg (by rw [sampleClock_clock]; omega)

/-! ## The bound on the moves still to come -/

theorem moves_pos (p : Prim) : 1 ≤ p.moves := by cases p <;> simp [Prim.moves]

theorem scriptMoves_drop {ps : List Prim} {point : Nat} {p : Prim} (hp : ps[point]? = some p) :
    scriptMoves (ps.drop point) = p.moves + scriptMoves (ps.drop (point + 1)) := by
  rw [drop_of_getElem? hp]
  simp [scriptMoves]

theorem movesLeft_idle {s : State} (h : s.phase = .idle) : s.movesLeft = 0 := by simp [State.movesLeft, h]

theorem movesLeft_run {s : State} {c : Instr} {point : Nat} {l : Locals} (h : s.phase = .run c point l) :
    s.movesLeft
      = 1 + 10 * l.n + scriptMoves ((script s.params c).drop point) - (if l.since.isSome then 1 else 0) := by
  simp [State.movesLeft, h]

theorem movesLeft_run_of_since_none {s : State} {c : Instr} {point : Nat} {l : Locals} (h : s.phase = .run c point l)
    (hs : l.since = none) :
    s.movesLeft = 1 + 10 * l.n + scriptMoves ((script s.params c).drop point) := by
  simp [movesLeft_run h, hs]

/-- At a primitive, no delay under way: its own moves and those after it. -/
theorem movesLeft_at {s : State} {c : Instr} {point : Nat} {l : Locals} {p : Prim} (h : s.phase = .run c point l)
    (hp : (script s.params c)[point]? = some p) (hs : l.since = none) :
    s.movesLeft = 1 + 10 * l.n + (p.moves + scriptMoves ((script s.params c).drop (point + 1))) := by
  rw [movesLeft_run_of_since_none h hs, scriptMoves_drop hp]

/-- In a delay that has begun one of its two moves is left. -/
theorem movesLeft_in_delay {s : State} {c : Instr} {point us t0 : Nat} {l : Locals} (h : s.phase = .run c point l)
    (hp : (script s.params c)[point]? = some (.delay us)) (hs : l.since = some t0) :
    s.movesLeft = 1 + 10 * l.n + (1 + scriptMoves ((script s.params c).drop (point + 1))) := by
  rw [movesLeft_run h, scriptMoves_drop hp, hs]
  simp only [Prim.moves, Option.isSome_some, if_true]
  omega

theorem movesLeft_start_ok {s : State} {w a0 a1 : Word} {c : Instr} (h : s.phase = .start w a0 a1)
    (hd : decode w a0 a1 = .ok c) :
    s.movesLeft = 2 + 10 * (initialLocals c).n + scriptMoves (script s.params c) := by
  simp [State.movesLeft, h, hd]

theorem movesLeft_start_error {s : State} {w a0 a1 : Word} {e : Illegal} (h : s.phase = .start w a0 a1)
    (hd : decode w a0 a1 = .error e) : s.movesLeft = 1 := by
  simp [State.movesLeft, h, hd]

theorem movesLeft_runAt {c : Instr} {point : Nat} {l : Locals} (hs : l.since = none) (s : State) :
    (runAt c point l s).movesLeft = 1 + 10 * l.n + scriptMoves ((script s.params c).drop point) :=
  movesLeft_run_of_since_none rfl hs

/-- A block that is not IDLE has a move to make. -/
theorem movesLeft_pos {s : State} (hinv : s.Inv) (h : s.phase ≠ .idle) : 0 < s.movesLeft := by
  cases hph : s.phase with
  | idle => exact absurd hph h
  | start w a0 a1 =>
    cases hd : decode w a0 a1 with
    | ok c => rw [movesLeft_start_ok hph hd]; omega
    | error e => rw [movesLeft_start_error hph hd]; omega
  | run c point l =>
    cases hs : l.since with
    | none => rw [movesLeft_run_of_since_none hph hs]; omega
    | some t0 =>
      obtain ⟨-, us, hp⟩ := ((phaseInv_run hph).1 hinv.phase).delay t0 hs
      rw [movesLeft_in_delay hph hp hs]; omega

/-! ## Every other move lowers the bound -/

/-- The last primitive of a loop is inside it (R141, R160). -/
theorem insideLoop_of_again {p : Params} {c : Instr} {point target : Nat}
    (hp : (script p c)[point]? = some (.again target)) : insideLoop c point = true := by
  obtain ⟨-, ⟨n, rfl⟩ | ⟨n, i, rfl⟩⟩ := script_again hp
  all_goals
    obtain ⟨hlt, hget⟩ := List.getElem?_eq_some_iff.1 hp
    simp only [script, List.length_cons, List.length_nil] at hlt
    interval_cases point <;> simp_all [script, insideLoop]

section
variable {s : State} {c : Instr} {point : Nat} {l : Locals} {p : Prim} (hph : s.phase = .run c point l)
include hph

/-- Going on by one from a primitive. -/
theorem movesLeft_next (hp : (script s.params c)[point]? = some p) (hs : l.since = none) {t : State} {l' : Locals}
    (ht : t.params = s.params) (hn : l'.n = l.n) (hs' : l'.since = none) :
    (runAt c (point + 1) l' t).movesLeft < s.movesLeft := by
  have hpos := moves_pos p
  rw [movesLeft_runAt hs', movesLeft_at hph hp hs, ht, hn]
  omega

/-- The loop's test goes on by one, or leaves for the point after the loop, which is nearer the end (R141, R160). -/
theorem movesLeft_whileMore {exit : Nat} (hp : (script s.params c)[point]? = some (.whileMore exit))
    (hs : l.since = none) : (runAt c (if l.n = 0 then exit else point + 1) l s).movesLeft < s.movesLeft := by
  split
  · rw [movesLeft_runAt hs, movesLeft_run_of_since_none hph hs]
    obtain ⟨rfl, ⟨n, rfl, rfl⟩ | ⟨n, i, rfl, rfl⟩⟩ := script_whileMore hp <;> simp [script, scriptMoves, Prim.moves]
  · exact movesLeft_next hph hp hs rfl rfl hs

/-- A turn of a loop takes one pulse off the ten moves of each (R141, R160). -/
theorem movesLeft_again {target : Nat} (hp : (script s.params c)[point]? = some (.again target)) (hs : l.since = none)
    (hn : 0 < l.n) : (runAt c target { l with n := l.n - 1 } s).movesLeft < s.movesLeft := by
  have hturn : scriptMoves ((script s.params c).drop target) ≤ 10 := by
    obtain ⟨rfl, ⟨n, rfl⟩ | ⟨n, i, rfl⟩⟩ := script_again hp <;> simp [script, scriptMoves, Prim.moves]
  rw [movesLeft_runAt (l := { l with n := l.n - 1 }) hs, movesLeft_at hph hp hs, Prim.moves]
  dsimp only
  omega

/-- A primitive lowers the bound, but for a wait whose bound is not reached. -/
theorem perform_movesLeft (hr : RunInv s c point l) (hp : (script s.params c)[point]? = some p)
    (hw : ∀ b, s.waitBound? = some b → b ≤ nextClock s) : (perform c point l s p).movesLeft < s.movesLeft := by
  cases p with
  | delay us =>
    cases hs : l.since with
    | none =>
      have hbegin : perform c point l s (.delay us) = runAt c point { l with since := some s.clock } s := by
        simp [perform, hs]
      rw [hbegin, movesLeft_in_delay (s := runAt c point { l with since := some s.clock } s) rfl hp rfl,
        movesLeft_at hph hp hs, Prim.moves, runAt_params]
      dsimp only
      omega
    | some t0 =>
      have hreached := hw (t0 + us) ((waitBound?_eq_some_iff hph _).2 (.inr ⟨us, t0, hp, hs, rfl⟩))
      have hpass : perform c point l s (.delay us) = runAt c (point + 1) { l with since := none } (sampleClock s) := by
        simp [perform, hs, hreached]
      rw [hpass, movesLeft_runAt rfl, movesLeft_in_delay hph hp hs, sampleClock_params]
      dsimp only
      omega
  | waitPace =>
    have hreached := hw _ ((waitBound?_eq_some_iff hph _).2 (.inl ⟨hp, rfl⟩))
    have hs := hr.since_eq_none hp (by simp)
    rw [perform, if_pos (by exact hreached)]
    exact movesLeft_next hph hp hs rfl rfl hs
  | whileMore exit => exact movesLeft_whileMore hph hp (hr.since_eq_none hp (by simp))
  | again target =>
    exact movesLeft_again hph hp (hr.since_eq_none hp (by simp)) (hr.inside (insideLoop_of_again hp))
  | raise code =>
    rw [movesLeft_at hph hp (hr.since_eq_none hp (by simp)), perform, movesLeft_idle rfl]
    omega
  | pinWrite | cfgOutLow | cfgInPullup | advance | stamp | loadCode | setMode | setEnabled | setInterval | result
  | resultEnabled | resultFault =>
    have hs := hr.since_eq_none hp (by simp)
    exact movesLeft_next hph hp hs (by simp) rfl hs

end

/-- A move lowers the bound, but for a poll whose bound is not reached. -/
theorem blockMove_movesLeft {s : State} (hinv : s.Inv) (h : s.phase ≠ .idle)
    (hw : ∀ b, s.waitBound? = some b → b ≤ nextClock s) : (blockMove s).movesLeft < s.movesLeft := by
  have hpos := movesLeft_pos hinv h
  cases hph : s.phase with
  | idle => exact absurd hph h
  | start w a0 a1 =>
    cases hd : decode w a0 a1 with
    | error e => rwa [blockMove_start_error hph hd, movesLeft_idle rfl]
    | ok c =>
      have hm : blockMove s = runAt c 0 (initialLocals c) s := by simp [blockMove, hph, hd]
      have hs : (initialLocals c).since = none := by cases c <;> rfl
      rw [hm, movesLeft_runAt hs, movesLeft_start_ok hph hd, List.drop_zero]
      omega
  | run c point l =>
    cases hp : (script s.params c)[point]? with
    | none =>
      have hm : blockMove s = finish s := by simp [blockMove, hph, hp]
      rwa [hm, movesLeft_idle rfl]
    | some p =>
      rw [blockMove_run hph hp]
      exact perform_movesLeft hph ((phaseInv_run hph).1 hinv.phase) hp hw

/-- A move of a busy block is a failed poll or lowers the bound. -/
theorem failedPoll_or_movesLeft_lt {s : State} (hinv : s.Inv) (h : s.phase ≠ .idle) :
    s.failedPoll (blockMove s) ∨ (blockMove s).movesLeft < s.movesLeft := by
  by_cases hshort : ∃ b, s.waitBound? = some b ∧ nextClock s < b
  · obtain ⟨b, hb, hlt⟩ := hshort
    have hm := blockMove_short hb hlt
    exact .inl ⟨b, hb, by rwa [hm], hm⟩
  · push Not at hshort
    exact .inr (blockMove_movesLeft hinv h hshort)

/-- Settles O51: by the waits, each short of its bound or past it, and `movesLeft` counted point by point. -/
theorem onlyAFailedPollDelaysCompletion : Obligations.OnlyAFailedPollDelaysCompletion := by
  refine ⟨fun s hinv h => failedPoll_or_movesLeft_lt hinv h, fun s hinv => ⟨fun h0 => ?_, movesLeft_idle⟩⟩
  by_contra h
  exact (movesLeft_pos hinv h).ne' h0

/-! ## Every command completes while the clock goes on (R237) -/

/-- How far the block is from IDLE: the moves left, then how far the clock is from the current wait's bound, then for
how many samples the clock stays. -/
def State.distance (s : State) : ℕ ×ₗ ℕ ×ₗ ℕ :=
  toLex (s.movesLeft, toLex (s.waitBound?.getD 0 - s.clock, s.lull))

/-- While the clock goes on a failed poll brings the clock nearer the bound, or its next movement nearer. -/
theorem sampleClock_distance_lt {s : State} {b : Nat} (hb : s.waitBound? = some b) (hlt : nextClock s < b)
    (hc : s.clockStop = none) : (sampleClock s).distance < s.distance := by
  have hbound : (sampleClock s).waitBound? = some b := hb
  have hle := clock_le_nextClock s
  refine Prod.Lex.toLex_lt_toLex.2 (.inr ⟨rfl, Prod.Lex.toLex_lt_toLex.2 ?_⟩)
  simp only [hbound, hb, Option.getD_some, sampleClock_clock]
  obtain ⟨-, hmoved⟩ | ⟨hstays, hlull⟩ := nextClock_goes_on hc
  · exact .inl (by omega)
  · exact .inr ⟨by rw [hstays], hlull⟩

/-- While the clock goes on every move of a busy block brings it nearer IDLE. -/
theorem blockMove_distance_lt {s : State} (hinv : s.Inv) (h : s.phase ≠ .idle) (hc : s.clockStop = none) :
    (blockMove s).distance < s.distance := by
  obtain ⟨b, hb, hlt, hm⟩ | hlt := failedPoll_or_movesLeft_lt hinv h
  · rw [hm] at hlt ⊢
    exact sampleClock_distance_lt hb hlt hc
  · exact Prod.Lex.toLex_lt_toLex.2 (.inl hlt)

/-- Induction along the moves of the block to IDLE, which it reaches while the clock goes on (R237). -/
theorem blockMove_induction {P : State → Prop} (idle : ∀ s : State, s.phase = .idle → P s)
    (move : ∀ s : State, s.phase ≠ .idle → s.clockStop = none → P (blockMove s) → P s) {s : State} (hinv : s.Inv)
    (hc : s.clockStop = none) : P s := by
  induction hd : s.distance using WellFoundedLT.induction generalizing s with
  | ind d ih =>
    subst hd
    by_cases h : s.phase = .idle
    · exact idle s h
    · exact move s h hc (ih _ (blockMove_distance_lt hinv h hc) (blockMove_inv hinv)
        ((blockMove_kept s).clockStop.trans hc) rfl)

/-- While the host waits and the clock goes on, a step of a busy block is one move, or the whole of a latched word. -/
theorem step_waiting_cases {s : State} (hw : s.Waiting) (h : s.phase ≠ .idle) (hc : s.clockStop = none) :
    step s = .next (blockMove s) ∨ ∃ t, step s = .next t ∧ t.phase = .idle ∧ t.params = s.params := by
  cases hph : s.phase with
  | idle => exact absurd hph h
  | run c point l => exact .inl (step_run hw hph)
  | start w a0 a1 =>
    cases hd : decode w a0 a1 with
    | error e => exact .inr ⟨_, step_start_error hw hph hd, rfl, rfl⟩
    | ok i =>
      obtain ⟨t, ht⟩ := exec_next i s
      obtain ⟨hk, hidle⟩ := exec_kept ht
      exact .inr ⟨t, (step_start_ok hw hph hd hc).trans ht, hidle, hk.params⟩

/-- A waiting host goes on waiting over a move of the block. -/
theorem State.Waiting.blockMove {s : State} (hw : s.Waiting) : (blockMove s).Waiting := by
  rwa [State.Waiting, (blockMove_kept s).host]

/-- Settles O52: both by induction along the moves to IDLE. -/
theorem everyCommandCompletesWhileTheClockGoesOn : Obligations.EveryCommandCompletesWhileTheClockGoesOn := by
  intro s hinv hc
  constructor
  · refine blockMove_induction (P := fun s => ∃ k, (blockMoves k s).phase = .idle) (fun s h => ⟨0, h⟩) ?_ hinv hc
    rintro s - - ⟨k, hk⟩
    exact ⟨k + 1, hk⟩
  · refine blockMove_induction (P := fun s => s.Waiting →
      ∃ k t, Host.Core.run core k s = .next t ∧ t.phase = .idle ∧ t.params = s.params)
      (fun s h _ => ⟨0, s, rfl, h, rfl⟩) (fun s h hc ih hw => ?_) hinv hc
    obtain hst | ⟨t, hst, hidle, hp⟩ := step_waiting_cases hw h hc
    · obtain ⟨k, t, hrun, hidle, hp⟩ := ih hw.blockMove
      exact ⟨k + 1, t, (run_succ hst k).trans hrun, hidle, hp.trans (blockMove_kept s).params⟩
    · exact ⟨1, t, run_succ hst 0, hidle, hp⟩

/-! ## A stopped clock hangs the command (R229) -/

/-- A hung block only samples its clock. -/
theorem State.hung.blockMove_eq {s : State} (h : s.hung) (hinv : s.Inv) : blockMove s = sampleClock s := by
  obtain ⟨b, stop, hb, hstop, hlt⟩ := h
  exact blockMove_short hb ((nextClock_le_stop hstop (hinv.clockStop stop hstop)).trans_lt hlt)

/-- A sample of the clock changes neither the wait nor where the clock stops. -/
theorem State.hung.sampleClock {s : State} (h : s.hung) : (sampleClock s).hung := h

theorem State.hung.inv_sampleClock {s : State} (h : s.hung) (hinv : s.Inv) : (Machine.sampleClock s).Inv :=
  h.blockMove_eq hinv ▸ blockMove_inv hinv

theorem State.hung.busy {s : State} (h : s.hung) : s.busy = true := by
  obtain ⟨b, stop, hb, -, -⟩ := h
  obtain ⟨c, point, l, hph⟩ := run_of_waitBound? hb
  exact (busy_iff s).2 (by simp [hph])

theorem State.hung.blockMoves_phase {s : State} (h : s.hung) (hinv : s.Inv) (k : Nat) :
    (blockMoves k s).phase = s.phase := by
  induction k generalizing s with
  | zero => rfl
  | succ k ih =>
    rw [blockMoves, h.blockMove_eq hinv]
    exact ih h.sampleClock (h.inv_sampleClock hinv)

/-- While the host waits, a step of a hung block only samples the clock. -/
theorem State.hung.step_eq {s : State} (h : s.hung) (hinv : s.Inv) (hw : s.Waiting) :
    step s = .next (Machine.sampleClock s) := by
  obtain ⟨b, stop, hb, -, -⟩ := id h
  obtain ⟨c, point, l, hph⟩ := run_of_waitBound? hb
  rw [step_run hw hph, h.blockMove_eq hinv]

theorem State.hung.run {s : State} (h : s.hung) (hinv : s.Inv) (hw : s.Waiting) (k : Nat) :
    ∃ t, Host.Core.run core k s = .next t ∧ t.phase = s.phase ∧ t.host = s.host ∧ t.busy = true
      ∧ t.trace = s.trace := by
  induction k generalizing s with
  | zero => exact ⟨s, rfl, rfl, rfl, h.busy, rfl⟩
  | succ k ih =>
    rw [run_succ (h.step_eq hinv hw)]
    exact ih h.sampleClock (h.inv_sampleClock hinv) hw

/-- Settles O53: a hung block stays hung, its moves and steps samples of a clock that stops short of the bound. -/
theorem aStoppedClockHangsTheCommand : Obligations.AStoppedClockHangsTheCommand :=
  fun _ hinv h => ⟨h.blockMoves_phase hinv, h.run hinv⟩

end Sys2Proof.Machine

/-! PROOF. Construction (R260, R49), and STEP and STEP_FIXED while STBY is low or high (R272). -/

namespace Sys2Proof.Machine

/-! ## Construction (R260) -/

theorem not_valid_of_spr_zero {p : Params} (h : p.spr = 0) : ¬p.valid = true := fun hv => by
  obtain ⟨hspr, -⟩ := spr_range_of_valid hv
  omega

theorem construct_of_valid {p : Params} {i : Init} (hp : p.valid = true) (hi : i.valid p = true) (env : Nat) :
    State.construct p i env = .next (State.atReset p i env) := if_pos (by rw [hp, hi]; rfl)

/-- The OPEN values that 32-bit registers hold are in R8's ranges. -/
theorem init_ranges_of_valid {p : Params} {i : Init} (h : i.valid p = true) :
    i.pulseInterval < 2 ^ 32 ∧ i.position < p.spr := by
  simp only [Init.valid, Bool.and_eq_true, decide_eq_true_eq] at h
  obtain ⟨⟨⟨⟨-, hinterval⟩, hposition⟩, -⟩, -⟩ := h
  exact ⟨by omega, hposition⟩

theorem atReset_status (p : Params) (i : Init) (env : Nat) : (State.atReset p i env).status = 0#32 := by
  have hb : (State.atReset p i env).busy = false := by simp [State.busy, State.atReset]
  have herr : (State.atReset p i env).err = .none := rfl
  rw [State.status, hb, herr]
  decide

/-- Settles O8: SPR = 0 is not a valid parameter, and valid OPEN values fit their registers. -/
theorem constructionRefusesZeroSpr : Obligations.ConstructionRefusesZeroSpr := by
  refine ⟨fun p i env h0 => if_neg ?_, fun p i env hp hi => ?_⟩
  · rw [Bool.and_eq_true]
    exact fun ⟨hp, _⟩ => not_valid_of_spr_zero h0 hp
  · obtain ⟨-, hspr⟩ := spr_range_of_valid hp
    obtain ⟨hinterval, hposition⟩ := init_ranges_of_valid hi
    have hfits : i.position < 2 ^ 32 := by omega
    exact ⟨_, construct_of_valid hp hi env, rfl, rfl, atReset_status p i env, rfl, Nat.mod_eq_of_lt hinterval, Nat.mod_eq_of_lt hfits,
      rfl, rfl, rfl, rfl, rfl, rfl, rfl⟩

/-! ## What STBY's level does not change (R272) -/

/-- The state `s` with this level on STBY. -/
def State.withStby (v : Bool) (s : State) : State := { s with pins := { s.pins with stby := v } }

/-- A write to another pin keeps STBY's level and does not read it. -/
theorem pinWrite_withStby {o : OutPin} (ho : o ≠ .stby) (b v : Bool) (s : State) :
    pinWrite o b (s.withStby v) = (pinWrite o b s).withStby v := by
  rw [pinWrite, pinWrite, apply_ite (State.withStby v)]
  cases o with
  | stby => exact absurd rfl ho
  | step | dir | ms1 | ms2 => rfl

theorem delayUs_withStby (n : Nat) (v : Bool) (s : State) : delayUs n (s.withStby v) = (delayUs n s).withStby v := rfl

theorem waitPace_withStby (v : Bool) (s : State) : waitPace (s.withStby v) = (waitPace s).withStby v := rfl

theorem advance_withStby (fwd v : Bool) (s : State) : advance fwd (s.withStby v) = (advance fwd s).withStby v := by
  cases fwd <;> rfl

theorem pulse_withStby (v : Bool) (s : State) : pulse (s.withStby v) = (pulse s).withStby v := by
  have hstep : OutPin.step ≠ .stby := nofun
  rw [pulse, pinWrite_withStby hstep, delayUs_withStby, pinWrite_withStby hstep]
  rfl

theorem pacedPulse_withStby (fwd v : Bool) (s : State) :
    pacedPulse fwd (s.withStby v) = (pacedPulse fwd s).withStby v := by
  rw [pacedPulse, waitPace_withStby, pulse_withStby, advance_withStby]
  rfl

theorem pacedPulses_withStby (fwd : Bool) (n : Nat) (v : Bool) (s : State) :
    pacedPulses fwd n (s.withStby v) = (pacedPulses fwd n s).withStby v := by
  induction n generalizing s with
  | zero => rfl
  | succ n ih => rw [pacedPulses, pacedPulse_withStby, ih, pacedPulses]

theorem fixedPulses_withStby (waitUs n : Nat) (v : Bool) (s : State) :
    fixedPulses waitUs n (s.withStby v) = (fixedPulses waitUs n s).withStby v := by
  induction n generalizing s with
  | zero => rfl
  | succ n ih => rw [fixedPulses, fixedPulse, pulse_withStby, delayUs_withStby, ih, fixedPulses, fixedPulse]

/-- STEP neither reads nor writes STBY's level (R272). -/
theorem exec_step_withStby {c : Word} {s t : State} (v : Bool) (he : exec (.step c) s = .next t) :
    exec (.step c) (s.withStby v) = .next (t.withStby v) := by
  by_cases hc : c = 0x80000000#32
  · subst hc; cases he; rfl
  · rw [exec_step hc] at he ⊢
    cases he
    rw [pinWrite_withStby (o := .dir) nofun, pacedPulses_withStby]
    rfl

/-- STEP_FIXED neither reads nor writes STBY's level (R272). -/
theorem exec_stepFixed_withStby {c w : Word} {s t : State} (v : Bool) (he : exec (.stepFixed c w) s = .next t) :
    exec (.stepFixed c w) (s.withStby v) = .next (t.withStby v) := by
  by_cases hc : c = 0x80000000#32
  · subst hc; cases he; rfl
  · rw [exec_stepFixed hc] at he ⊢
    cases he
    rw [pinWrite_withStby (o := .dir) nofun, fixedPulses_withStby]
    rfl

/-- Settles O26: every write, wait, advance and turn of the two loops commutes with setting STBY's level. -/
theorem stepIgnoresStandby : Obligations.StepIgnoresStandby :=
  fun _ _ _ _ v => ⟨exec_step_withStby v, exec_stepFixed_withStby v⟩

end Sys2Proof.Machine
